-- ==== Sys2Proof/Word.lean ====
section
/-! DEFINITION. The widths of the block: command words, channel bytes, patterns and table entries. -/

namespace Sys2Proof

/-- A command word on the command port (R80). -/
abbrev Word := BitVec 16

/-- A channel byte, a chase table entry (R53) or an 8-bit register (R8). -/
abbrev Byte := BitVec 8

/-- A pattern: PAT_W = 6 bits, bit 5 the outermost light and bit 0 the innermost (R7, R14). -/
abbrev Pattern := BitVec 6

/-- A signal table entry (R57). -/
abbrev SigEntry := BitVec 32

end Sys2Proof
end

