-- ==== Sys2Proof/Machine/Operands.lean ====
section
/-! DEFINITION. The fields of a command word (R81), its operand forms (R82) and what storing an operand does to it. -/

namespace Sys2Proof.Machine

/-- OP, bits 15:12 (R81). -/
def opField (w : Word) : BitVec 4 := w.extractLsb' 12 4

/-- RSV, bits 11:8, reserved, must be 0 (R81). -/
def rsvField (w : Word) : BitVec 4 := w.extractLsb' 8 4

/-- X, bits 7:0, the operand (R81). -/
def xField (w : Word) : Byte := w.extractLsb' 0 8

/-- Form imm8: the value X[7:0], always legal (R82). -/
def imm8 (w : Word) : Byte := xField w

/-- Form imm6: the value X[5:0] (R82). -/
def imm6 (w : Word) : Pattern := w.extractLsb' 0 6

/-- Form imm6 is legal when X[7:6] = 0b00 (R82). -/
def imm6Legal (w : Word) : Bool := w.extractLsb' 6 2 == 0#2

/-- Form imm1: the value X[0] (R82). -/
def imm1 (w : Word) : BitVec 1 := w.extractLsb' 0 1

/-- Form imm1 is legal when X[7:1] = 0 (R82). -/
def imm1Legal (w : Word) : Bool := w.extractLsb' 1 7 == 0#7

/-- Form none is legal when X = 0x00 (R82). -/
def noneLegal (w : Word) : Bool := xField w == 0x00#8

/-- What SETSPEED stores: max(1, s) (R132, D7). -/
def atLeastOne (s : Byte) : Byte := BitVec.ofNat 8 (max 1 s.toNat)

end Sys2Proof.Machine
end

