-- ==== Sys2Proof/Syntax.lean ====
section
/-! DEFINITION. The command words, one constructor per row of the opcode map (R83), and the pseudo-instructions,
channel windows and pattern commands that expand into them (R90, R100 to R102). -/

namespace Sys2Proof

/-- The nine commands of the opcode map (R83). An operand has exactly the width its form gives it (R82): imm8, imm6 or
imm1, so a term cannot hold an operand out of its form's range. ILLEGAL is no command: `decode` answers it as an error. -/
inductive Instr where
  /-- NOP (R141). -/
  | nop
  /-- SETSPEED #s, operand imm8 (R132). -/
  | setspeed (s : Byte)
  /-- SETSEQ #n, operand imm8 (R133). -/
  | setseq (n : Byte)
  /-- SETPAT #p, operand imm6 (R134). -/
  | setpat (p : Pattern)
  /-- CLRPAT (R135). -/
  | clrpat
  /-- SIGNAL #i, operand imm8 (R136). -/
  | signal (i : Byte)
  /-- ON (R137). -/
  | turnOn
  /-- OFF (R138). -/
  | turnOff
  /-- STOP #b, operand imm1 (R140). -/
  | stop (b : BitVec 1)
deriving DecidableEq, Repr

/-- WIN_LEN = 10 (R7). -/
def winLen : Nat := 10

/-- The channel window `win[0..9]` = ch1..ch10 (R100, R101). -/
abbrev Window := Vector Byte winLen

/-- The values of the PatternCommand (R102). -/
inductive PatternCommand where
  /-- MASTER_OFF: master = 0. -/
  | masterOff
  /-- AUTO(speed). -/
  | auto (speed : Byte)
  /-- MANUAL(mask). -/
  | manual (mask : Pattern)
deriving DecidableEq, Repr

/-- The pseudo-instructions (R90). -/
inductive Pseudo where
  | clrsig
  | resume
  | patMasterOff
  | patAuto (s : Byte)
  | patManual (m : Pattern)
  | dispatch (win : Window)
deriving DecidableEq, Repr

end Sys2Proof
end

