-- ==== Sys2Proof/Decode.lean ====
section
/-! DEFINITION. The opcode map and the decoder of command words (R83 to R85), and the encoder written from the same map. -/

namespace Sys2Proof

/-- A row of the opcode map (R83): a word w selects it when `w &&& mask = pat`; the operand is taken per R82. -/
structure Row where
  mnemonic : String
  pat : Word
  mask : Word

/-- The opcode map, one row per command, in the order of R83. -/
def opcodeMap : List (Row × (Word → Instr)) :=
  [ (⟨"NOP",      0x0000#16, 0xFFFF#16⟩, fun _ => .nop),
    (⟨"SETSPEED", 0x1000#16, 0xFF00#16⟩, fun w => .setspeed (Machine.imm8 w)),
    (⟨"SETSEQ",   0x2000#16, 0xFF00#16⟩, fun w => .setseq (Machine.imm8 w)),
    (⟨"SETPAT",   0x3000#16, 0xFFC0#16⟩, fun w => .setpat (Machine.imm6 w)),
    (⟨"CLRPAT",   0x4000#16, 0xFFFF#16⟩, fun _ => .clrpat),
    (⟨"SIGNAL",   0x5000#16, 0xFF00#16⟩, fun w => .signal (Machine.imm8 w)),
    (⟨"ON",       0x6000#16, 0xFFFF#16⟩, fun _ => .turnOn),
    (⟨"OFF",      0x7000#16, 0xFFFF#16⟩, fun _ => .turnOff),
    (⟨"STOP",     0x8000#16, 0xFFFE#16⟩, fun w => .stop (Machine.imm1 w)) ]

/-- `(w & r.mask) = r.match` (R83, R84). -/
def Row.selects (r : Row) (w : Word) : Bool := w &&& r.mask == r.pat

/-- Why a word is ILLEGAL (R85): the three ways a word misses every row. -/
inductive Illegal where
  /-- OP in 0x9..0xF. -/
  | reservedOpcode
  /-- RSV bits 11:8 not 0. -/
  | reservedBits
  /-- An operand that breaks its form's "legal when" column (R82). -/
  | operandBits
deriving DecidableEq, Repr

/-- The name of an ILLEGAL word's defect; where a word has several, the first of opcode, RSV, operand. -/
def illegalReason (w : Word) : Illegal :=
  if 0x9#4 ≤ Machine.opField w then .reservedOpcode
  else if Machine.rsvField w ≠ 0#4 then .reservedBits
  else .operandBits

/-- `Decode(w)` (R84), total on every word: the first row the word selects gives the command; no row gives ILLEGAL, here
an error with its name. -/
def decode (w : Word) : Except Illegal Instr :=
  match opcodeMap.find? (fun r => r.1.selects w) with
  | some r => .ok (r.2 w)
  | none => .error (illegalReason w)

/-- The word of a command (R81 to R83): its row's match with the operand in the low bits of X. -/
def encode : Instr → Word
  | .nop => 0x0000#16
  | .setspeed s => 0x10#8 ++ s
  | .setseq n => 0x20#8 ++ n
  | .setpat p => 0x30#8 ++ 0#2 ++ p
  | .clrpat => 0x4000#16
  | .signal i => 0x50#8 ++ i
  | .turnOn => 0x6000#16
  | .turnOff => 0x7000#16
  | .stop b => 0x80#8 ++ 0#7 ++ b

/-- The mnemonic of a command (R83). -/
def mnemonic : Instr → String
  | .nop => "NOP"
  | .setspeed _ => "SETSPEED"
  | .setseq _ => "SETSEQ"
  | .setpat _ => "SETPAT"
  | .clrpat => "CLRPAT"
  | .signal _ => "SIGNAL"
  | .turnOn => "ON"
  | .turnOff => "OFF"
  | .stop _ => "STOP"

/-- The command word whose bits are the low `nbits` bits of w; a word is 16 bits and is delivered whole (R87, R91). -/
def portWord (nbits w : Nat) : Word := BitVec.ofNat 16 (w % 2 ^ nbits)

/-- The command the decoder reads from a word given as a number of `nbits` bits, bit 0 the least significant; no command is
wider than 16 bits (R87; log 21). -/
def decodeTableWord (nbits w : Nat) : Option Instr :=
  if nbits ≤ 16 then (decode (portWord nbits w)).toOption else none

end Sys2Proof
end

