-- ==== Sys2Proof/Config.lean ====
section
/-! DEFINITION. What an implementation fixes (R7, R45) and the free values the spec leaves open (U7, U8). -/

namespace Sys2Proof

/-- The implementation parameters (R7). A model takes each OPEN one as an argument: State carries them in its field
`cfg`, which no step writes (R45, R71; log 1). -/
structure Config where
  /-- NCHASE, the number of chase tables. -/
  nchase : Nat
  /-- CHASE_ROM: table n is the n-th list, its entries in order (R52). -/
  chaseRom : List (List Byte)
  /-- MAX_CHASE_LEN, entries per chase table at most, END included. -/
  maxChaseLen : Nat
  /-- NSIG, the number of special signals, ids 1..NSIG (log 17). -/
  nsig : Nat
  /-- SIG_ROM: the table of signal s is the (s-1)-th list; signal id 0 has no table (R56, R64). -/
  sigRom : List (List SigEntry)
  /-- MAX_SIG_LEN, entries per signal table at most, mode tag and END included. -/
  maxSigLen : Nat
  /-- W_BUS, the number of bits shifted per bus write. -/
  wBus : Nat
  /-- TICK_PERIOD in milliseconds, nominal: no rule depends on it (R275; log 18). -/
  tickPeriodMs : Nat
deriving DecidableEq, Repr

namespace Config

/-- RESET_SPEED = 2 (R7, D32). -/
def resetSpeed : Byte := 2#8

/-- EXCFG, the spec's example configuration (95_test_vectors.md section 1): an illustration, not a default (D12).
DESIGN CHOICE: `State.reset` is given it (log 2). -/
def example1 : Config where
  nchase := 2
  chaseRom :=
    [ [0x20#8, 0x10#8, 0x08#8, 0x04#8, 0x02#8, 0x01#8, 0xFF#8],
      [0x21#8, 0x12#8, 0x0C#8, 0xFF#8] ]
  maxChaseLen := 8
  nsig := 9
  sigRom :=
    [ [0x00000040#32, 0x0003003F#32, 0x00020000#32, 0x000000C0#32],
      [0x00000040#32, 0x00040030#32, 0x00040000#32, 0x000000C0#32],
      [0x00000080#32, 0x0002000C#32, 0x00020000#32, 0x000000C0#32],
      [0x00000040#32, 0x0002002A#32, 0x00020015#32, 0x000000C0#32],
      [0x00000080#32, 0x0001003F#32, 0x00010000#32, 0x000000C0#32],
      [0x00000080#32, 0x00050001#32, 0x00050000#32, 0x000000C0#32],
      [0x00000040#32, 0x00030003#32, 0x000000C0#32],
      [0x00000040#32, 0x00030007#32, 0x000000C0#32],
      [0x00000040#32, 0x00020038#32, 0x00020007#32, 0x00000000#32, 0x000000C0#32] ]
  maxSigLen := 8
  wBus := 8
  tickPeriodMs := 10

/-- Free value: bit i of SR_SHIFT at power-up, an unconstrained draw (R44, U8; log 3). -/
opaque srShiftAtPowerUp : Nat → Bool

/-- Free value: bit i of SR_OUT at power-up, an unconstrained draw (R44, U8; log 3). -/
opaque srOutAtPowerUp : Nat → Bool

/-- Free value: where FG and TMR are both ready and no order is given, whether FG's step is the one that comes first;
the argument counts such choices (R235 item 1, U7; log 4). -/
opaque foregroundFirst : Nat → Bool

end Config

end Sys2Proof
end

