-- ==== Sys2Proof/Machine/State.lean ====
section
/-! DEFINITION. The state of the machine: the block's registers (R20 to R36), the external register SR (R44, R214), the agents
FG and TMR as plain data (R6, R130, R110), the configuration (R45) and the observation (R184); and the state after reset. -/

namespace Sys2Proof.Machine

/-- The output pins (R36). -/
inductive Pin where
  | clk
  | dat
  | lat
deriving DecidableEq, Repr

/-- `pin P <- b`: one pin event in the observation (R10, R211). -/
structure PinEvent where
  pin : Pin
  level : Bool
deriving DecidableEq, Repr

/-- Who makes a step: FG, TMR (a TICK strobe), or the reset input (R6, R12, R88). -/
inductive Agent where
  | fg
  | tmr
  | rst
deriving DecidableEq, Repr

/-- What FG may issue when no command is in progress: a command word, or DISPATCH of a channel window (R100, R131). -/
inductive FgAction where
  | word (w : Word)
  | dispatch (win : Window)
deriving DecidableEq, Repr

/-- Where FG stands in the three phases of a command (R130). -/
inductive FgPhase where
  /-- No command in progress: the last END is done (R131). -/
  | idle
  /-- BEGIN of word w is done; APPLY comes next. -/
  | begun (w : Word)
  /-- APPLY is done; END comes next. -/
  | applied
deriving DecidableEq, Repr

/-- The whole machine. The one-bit registers that no word reads or writes as bits are Bools (R42, log 16). -/
structure State where
  /-- GUARD (R21). -/
  guard : Bool
  /-- SIG_ID (R22). -/
  sigId : BitVec 8
  /-- SIG_IDX (R23). -/
  sigIdx : BitVec 8
  /-- SIG_CNT (R24). -/
  sigCnt : BitVec 16
  /-- HELD (R25). -/
  held : Bool
  /-- HELD_VAL (R26). -/
  heldVal : Pattern
  /-- ON (R27). -/
  chaseOn : Bool
  /-- OFF_DONE (R28). -/
  offDone : Bool
  /-- STOPPED (R29). -/
  stopped : Bool
  /-- SEQ (R30). -/
  seqNum : BitVec 8
  /-- CHASE_IDX (R31). -/
  chaseIdx : BitVec 8
  /-- CHASE_CNT (R32). -/
  chaseCnt : BitVec 8
  /-- SPEED (R33). -/
  speed : BitVec 8
  /-- LAST_VALID (R34). -/
  lastValid : Bool
  /-- LAST_BUS (R35). -/
  lastBus : Pattern
  /-- Pin CLK (R36). -/
  clk : Bool
  /-- Pin DAT (R36). -/
  dat : Bool
  /-- Pin LAT (R36). -/
  lat : Bool
  /-- SR_SHIFT, its W_BUS bits, most significant first (R44, R214; log 16). -/
  srShift : List Bool
  /-- SR_OUT, its W_BUS bits, most significant first (R44, R214; log 16). -/
  srOut : List Bool
  /-- The configuration (R7, R45); no step writes it (R71; log 1). -/
  cfg : Config
  /-- FG's place in the phases of its command (R130). -/
  phase : FgPhase
  /-- The words of the current DISPATCH expansion still to be issued, in order (R110). -/
  expansion : List Word
  /-- The model's own: what FG will issue, in order (R68; log 12). -/
  queue : List FgAction
  /-- The model's own: who makes each of the coming steps, as far as that is given (U7; log 4). -/
  sched : List Agent
  /-- The model's own: how many times the free value has picked between FG and TMR (log 4). -/
  turn : Nat
  /-- The observation: the number of performed TICKs (R184; log 9). -/
  performed : Nat
  /-- The observation: (performed-TICK number, BusWrite value), oldest first (R184; log 9). -/
  writes : List (Nat × Pattern)
  /-- The observation: every pin event, oldest first (R10, R184; log 9). -/
  pinLog : List PinEvent
deriving DecidableEq, Repr

/-- The reasons a step stops with a fault. The block itself raises none (R230): these name table reads for which the spec has no
entry, which no run from a well-formed reset state makes (R62; log 7). -/
inductive Fault where
  /-- Raised by a TICK that reads a chase table outside its entries (R62). Safe: the model stops where the spec says nothing. -/
  | chaseReadOutsideTable
  /-- Raised by a TICK that reads a signal table outside its entries (R62). Safe: the model stops where the spec says nothing. -/
  | sigReadOutsideTable
deriving DecidableEq, Repr

/-- The reasons a step is refused. -/
inductive Refusal where
  /-- Raised by an arm of `exec` for a command that has no meaning yet; no arm does. Safe. -/
  | notModelled (mnemonic : String)
  /-- Raised by every step of a machine whose configuration breaks a check of U1 (R232, R264). Safe: the spec refuses it too. -/
  | illFormedConfiguration
deriving DecidableEq, Repr

/-- The state after reset (R43, R260) of a machine with configuration `c` whose SR holds `shift` and `out` (R44), with nothing
given about what FG will issue and when. -/
def State.initial (c : Config) (shift out : List Bool) : State where
  guard := false
  sigId := 0#8
  sigIdx := 0#8
  sigCnt := 0#16
  held := false
  heldVal := 0#6
  chaseOn := false
  offDone := false
  stopped := false
  seqNum := 0#8
  chaseIdx := 0#8
  chaseCnt := 0#8
  speed := Config.resetSpeed
  lastValid := false
  lastBus := 0#6
  clk := false
  dat := false
  lat := false
  srShift := shift
  srOut := out
  cfg := c
  phase := .idle
  expansion := []
  queue := []
  sched := []
  turn := 0
  performed := 0
  writes := []
  pinLog := []

/-- `w` bits drawn from a free value, the most significant first. -/
def drawBits (w : Nat) (draw : Nat → Bool) : List Bool := (List.range w).reverse.map draw

/-- The machine right after reset: the registers of R43, SR at its unknown power-up contents (R44; log 3), and the spec's example
configuration for the OPEN parameters (DESIGN CHOICE, log 2). -/
def State.reset : State :=
  State.initial Config.example1
    (drawBits Config.example1.wBus Config.srShiftAtPowerUp)
    (drawBits Config.example1.wBus Config.srOutAtPowerUp)

end Sys2Proof.Machine
end

