-- ==== Sys2Proof/Machine/Tables.lean ====
section
/-! DEFINITION. The two read-only tables: the formats of their entries and the reads ChaseRead and SigRead (R52 to R59). -/

namespace Sys2Proof.Machine

/-- `IsEnd8(e)`: a chase entry with K = e[7:6] other than 0b00 is END (R53, R54, U6). -/
def isEnd8 (e : Byte) : Bool := e.extractLsb' 6 2 != 0#2

/-- The pattern P = e[5:0] of a chase data entry (R53). -/
def chasePat (e : Byte) : Pattern := e.extractLsb' 0 6

/-- `Kind(e) = e[7:6]` (R57, R59): 0b00 data step, 0b01 ONESHOT tag, 0b10 LOOP tag, 0b11 END. -/
def sigKind (e : SigEntry) : BitVec 2 := e.extractLsb' 6 2

/-- `Pat(e) = e[5:0]` (R59). -/
def sigPat (e : SigEntry) : Pattern := e.extractLsb' 0 6

/-- `Dur(e) = e[31:16]` (R59). -/
def sigDur (e : SigEntry) : BitVec 16 := e.extractLsb' 16 16

/-- A signal entry of Kind 0b11 is END (R57). -/
def isEnd32 (e : SigEntry) : Bool := sigKind e == 3#2

/-- The entries of chase table n, n in 0..NCHASE-1 (R52); none for another n. -/
def chaseTable (c : Config) (n : Nat) : Option (List Byte) :=
  if n < c.nchase then c.chaseRom[n]? else none

/-- `ChaseRead(n, i)` (R54); none where there is no such entry, which a well-formed configuration never meets (R62; log 7). -/
def chaseRead (c : Config) (n i : Nat) : Option Byte := (chaseTable c n).bind (·[i]?)

/-- The entries of the table of signal s, s in 1..NSIG (R56); none for another s, 0 among them (R64). -/
def sigTable (c : Config) (s : Nat) : Option (List SigEntry) :=
  if 1 ≤ s ∧ s ≤ c.nsig then c.sigRom[s - 1]? else none

/-- `SigRead(s, i)` (R59); none where there is no such entry (R62; log 7). -/
def sigRead (c : Config) (s i : Nat) : Option SigEntry := (sigTable c s).bind (·[i]?)

/-- `endc(n)`, the index of the END of chase table n (R55); 0 where there is no such table. -/
def chaseEnd (c : Config) (n : Nat) : Nat := ((chaseTable c n).getD []).findIdx isEnd8

/-- `ends(s)`, the index of the END of the table of signal s (R60); 0 where there is no such table. -/
def sigEnd (c : Config) (s : Nat) : Nat := ((sigTable c s).getD []).findIdx isEnd32

/-- The two signal modes (R14, R58). -/
inductive SigMode where
  | oneshot
  | loop
deriving DecidableEq, Repr

/-- The mode a signal's entry 0 gives: LOOP for Kind 0b10, else ONESHOT (R58). -/
def modeOfTag (e : SigEntry) : SigMode := if sigKind e = 2#2 then .loop else .oneshot

/-- `Mode(s)` (R58); none where SigRead(s, 0) is. -/
def sigMode (c : Config) (s : Nat) : Option SigMode := (sigRead c s 0).map modeOfTag

end Sys2Proof.Machine
end

