-- ==== Sys2Proof/Machine/Ops.lean ====
section
/-! DEFINITION. The named operations the meanings share: the outcome type and its sequencing, the guard, Resume, reset, the pins with
the SR behind them, and BusWrite. The block has no exception to take and none to return from (R230, R236, R237). -/

namespace Sys2Proof.Machine

/-- How a step of this machine ends. -/
abbrev Result := Host.Outcome State Fault Refusal

/-- Runs `f` on the answer of `r`; a fault or a refusal stays. -/
def andThen {α β : Type} (r : Host.Outcome α Fault Refusal) (f : α → Host.Outcome β Fault Refusal) :
    Host.Outcome β Fault Refusal :=
  match r with
  | .next a => f a
  | .fault e => .fault e
  | .refused e => .refused e

/-- The value of a table read, or the fault that names a read outside the table (log 7). -/
def readOr {α : Type} (e : Fault) (x : Option α) : Host.Outcome α Fault Refusal :=
  match x with
  | some a => .next a
  | none => .fault e

/-- `GUARD <- 1` (R130). -/
def setGuard (s : State) : State := { s with guard := true }

/-- `GUARD <- 0` (R130). -/
def clearGuard (s : State) : State := { s with guard := false }

/-- One more performed TICK in the observation (R184; log 9). -/
def counted (s : State) : State := { s with performed := s.performed + 1 }

/-- `Resume()` (R176). -/
def resume (s : State) : State :=
  { s with chaseIdx := 0#8, chaseCnt := 0#8, offDone := false }

/-- Reset, one step (R260): every register of the block to its value in R43, pins to 0. The configuration and SR stay. FG drops
the command and the expansion it was in (R263; log 10); what it may issue later, the schedule and the observation stay (log 9). -/
def resetBlock (s : State) : State :=
  { s with
    guard := false
    sigId := 0#8
    sigIdx := 0#8
    sigCnt := 0#16
    held := false
    heldVal := 0#6
    chaseOn := false
    offDone := false
    stopped := false
    seqNum := 0#8
    chaseIdx := 0#8
    chaseCnt := 0#8
    speed := Config.resetSpeed
    lastValid := false
    lastBus := 0#6
    clk := false
    dat := false
    lat := false
    phase := .idle
    expansion := [] }

/-- `{ r[W_BUS-2:0], d }` for a register held most significant bit first (R214). -/
def shiftIn (r : List Bool) (d : Bool) : List Bool := (r ++ [d]).tail

/-- Event `e` raises pin `p`, whose level is `now`, from 0 to 1 (R214). -/
def rises (p : Pin) (now : Bool) (e : PinEvent) : Bool := e.pin == p && e.level && !now

/-- The level of pin `p` after event `e`, `now` before it (R10). -/
def levelAfter (p : Pin) (now : Bool) (e : PinEvent) : Bool := if e.pin = p then e.level else now

/-- `pin P <- b` (R10) and SR's reaction to it (R214): a CLK rise shifts DAT in, a LAT rise copies the shift stage to the outputs,
any other event changes nothing in SR. -/
def drivePin (e : PinEvent) (s : State) : State :=
  { s with
    srShift := if rises .clk s.clk e then shiftIn s.srShift s.dat else s.srShift
    srOut := if rises .lat s.lat e then s.srShift else s.srOut
    clk := levelAfter .clk s.clk e
    dat := levelAfter .dat s.dat e
    lat := levelAfter .lat s.lat e
    pinLog := s.pinLog ++ [e] }

/-- The events of a list, in order. -/
def drivePins (es : List PinEvent) (s : State) : State := es.foldl (fun s e => drivePin e s) s

/-- `u = zext_W_BUS(v)`, most significant bit first (R211, R213). -/
def busBits (w : Nat) (v : Pattern) : List Bool := (List.range w).reverse.map v.getLsbD

/-- The three events of one bit of a BusWrite (R211). -/
def bitEvents (b : Bool) : List PinEvent := [⟨.dat, b⟩, ⟨.clk, true⟩, ⟨.clk, false⟩]

/-- The events of the latch pulse (R211). -/
def latchEvents : List PinEvent := [⟨.lat, true⟩, ⟨.lat, false⟩]

/-- All pin events of `BusWrite(v)` on a bus of `w` bits, in order (R211). -/
def busEvents (w : Nat) (v : Pattern) : List PinEvent := (busBits w v).flatMap bitEvents ++ latchEvents

/-- `BusWrite(v)` (R211); it is recorded in the observation with the number of the TICK that performs it (R184). -/
def busWrite (v : Pattern) (s : State) : State :=
  let t := drivePins (busEvents s.cfg.wBus v) s
  { t with lastBus := v, lastValid := true, writes := t.writes ++ [(t.performed, v)] }

/-- The level of light k, counted from the innermost (k = 0) to the outermost (k = 5): it follows SR_OUT[k] (R215). -/
def light (s : State) (k : Nat) : Bool := s.srOut.reverse.getD k false

end Sys2Proof.Machine
end

