-- ==== Sys2Proof/Machine/Commands.lean ====
section
/-! DEFINITION. The meanings of the commands: what phase APPLY does (R130 to R142). No command raises an exception (R230). -/

namespace Sys2Proof.Machine

/-- NOP: APPLY changes no register (R141). -/
def execNop (s : State) : Result := .next s

/-- SETSPEED #x: `SPEED <- max(1, x)` (R132). -/
def execSetspeed (x : BitVec 8) (s : State) : Result := .next { s with speed := atLeastOne x }

/-- SETSEQ #n (R133): n of NCHASE or more changes nothing. -/
def execSetseq (n : BitVec 8) (s : State) : Result :=
  if n.toNat < s.cfg.nchase then
    .next { s with seqNum := n, chaseIdx := 0#8, chaseCnt := 0#8 }
  else .next s

/-- SETPAT #p: `HELD <- 1`, `HELD_VAL <- p` (R134). -/
def execSetpat (p : Pattern) (s : State) : Result := .next { s with held := true, heldVal := p }

/-- CLRPAT (R135). -/
def execClrpat (s : State) : Result :=
  if s.held then .next { s with held := false, chaseCnt := 0#8, offDone := false } else .next s

/-- SIGNAL #i (R136): id 0 clears an active signal with Resume (R176), an id above NSIG changes nothing. -/
def execSignal (i : BitVec 8) (s : State) : Result :=
  if i = 0#8 then
    if s.sigId ≠ 0#8 then .next (resume { s with sigId := 0#8 }) else .next s
  else if i.toNat ≤ s.cfg.nsig then
    .next { s with sigId := i, sigIdx := 1#8, sigCnt := 0#16 }
  else .next s

/-- ON (R137). -/
def execOn (s : State) : Result :=
  if s.chaseOn then .next s else .next { s with chaseOn := true, chaseCnt := 0#8, offDone := false }

/-- OFF (R138). -/
def execOff (s : State) : Result :=
  if s.chaseOn then .next { s with chaseOn := false, offDone := false } else .next s

/-- STOP #b: `STOPPED <- b` (R140). -/
def execStop (b : BitVec 1) (s : State) : Result := .next { s with stopped := b == 1#1 }

/-- An ILLEGAL word: APPLY changes no register, exactly as NOP, and nothing records the word (R85, R142). -/
def execIllegal (_why : Illegal) (s : State) : Result := .next s

end Sys2Proof.Machine
end

