-- ==== Sys2Proof/Machine/Dispatch.lean ====
section
/-! DEFINITION. `Execute` of a decoded command (R130): one arm per constructor, each one direct call of its meaning. -/

namespace Sys2Proof.Machine

def exec (i : Instr) (s : State) : Host.Outcome State Fault Refusal :=
  match i with
  | .nop => Sys2Proof.Machine.execNop s
  | .setspeed x => Sys2Proof.Machine.execSetspeed x s
  | .setseq n => Sys2Proof.Machine.execSetseq n s
  | .setpat p => Sys2Proof.Machine.execSetpat p s
  | .clrpat => Sys2Proof.Machine.execClrpat s
  | .signal id => Sys2Proof.Machine.execSignal id s
  | .turnOn => Sys2Proof.Machine.execOn s
  | .turnOff => Sys2Proof.Machine.execOff s
  | .stop b => Sys2Proof.Machine.execStop b s

end Sys2Proof.Machine
end

