-- ==== Sys2Proof/Machine/PatternDispatch.lean ====
section
/-! DEFINITION. The pattern-dispatch front end: from a channel window to a PatternCommand to command words (R90, R100 to R111). It is a
pure function of the window and reads no register (R100, R103). -/

namespace Sys2Proof.Machine

/-- `floor((255 - v) / 14) + 2`, the speed of selector v (R103, R104). -/
def speedOf (v : Byte) : Byte := BitVec.ofNat 8 ((255 - v.toNat) / 14 + 2)

/-- `{ win[4][7], win[5][7], …, win[9][7] }`: win[4] gives mask[5] (R103, R105). -/
def maskOf (win : Window) : Pattern :=
  BitVec.ofBool (win[4].getLsbD 7) ++ BitVec.ofBool (win[5].getLsbD 7) ++ BitVec.ofBool (win[6].getLsbD 7)
    ++ BitVec.ofBool (win[7].getLsbD 7) ++ BitVec.ofBool (win[8].getLsbD 7) ++ BitVec.ofBool (win[9].getLsbD 7)

/-- `DerivePatternCommand(win)` (R103, R106). -/
def derivePatternCommand (win : Window) : PatternCommand :=
  if win[0] = 0#8 then .masterOff
  else if win[3] ≠ 0#8 then .auto (speedOf win[3])
  else .manual (maskOf win)

/-- The commands a PatternCommand issues, in order: PAT.MASTEROFF (R107), PAT.AUTO (R108) or PAT.MANUAL (R109). -/
def expandPattern : PatternCommand → List Instr
  | .masterOff => [.setpat 0#6, .turnOff]
  | .auto s => [.setspeed s, .turnOn, .clrpat]
  | .manual m => [.setpat m]

/-- The commands of a pseudo-instruction, in the order they are issued (R90). The assembler issues them only where `Pseudo.wellFormed`
holds: PAT.AUTO of 2..20 (R108; log 23). -/
def expandPseudo : Pseudo → List Instr
  | .clrsig => [.signal 0#8]
  | .resume => [.stop 0#1]
  | .patMasterOff => expandPattern .masterOff
  | .patAuto s => expandPattern (.auto s)
  | .patManual m => expandPattern (.manual m)
  | .dispatch win => expandPattern (derivePatternCommand win)

/-- The words `DISPATCH win` issues, in order (R110). -/
def dispatchWords (win : Window) : List Word := (expandPattern (derivePatternCommand win)).map encode

end Sys2Proof.Machine
end

