-- ==== Sys2Proof/Machine/Tick.lean ====
section
/-! DEFINITION. The TICK, one indivisible step of TMR (R170 to R183). -/

namespace Sys2Proof.Machine

/-- ManualTick (R177). -/
def manualTick (s : State) : State :=
  if s.lastValid = false ∨ s.lastBus ≠ s.heldVal then busWrite s.heldVal s else s

/-- OffTick (R178). -/
def offTick (s : State) : State :=
  if s.offDone then s else { busWrite 0#6 s with offDone := true }

/-- ChaseStep once its entry is read: write the pattern, go to index `i + 1`, arm the counter (R181). -/
def chaseShow (e : Byte) (i : BitVec 8) (s : State) : State :=
  { busWrite (chasePat e) s with chaseIdx := i + 1#8, chaseCnt := s.speed }

/-- ChaseStep and wrap (R181). -/
def chaseStep (s : State) : Result :=
  andThen (readOr .chaseReadOutsideTable (chaseRead s.cfg s.seqNum.toNat s.chaseIdx.toNat)) fun e =>
    if isEnd8 e then
      andThen (readOr .chaseReadOutsideTable (chaseRead s.cfg s.seqNum.toNat 0)) fun e0 =>
        .next (chaseShow e0 0#8 s)
    else .next (chaseShow e s.chaseIdx s)

/-- ChaseTick (R180). -/
def chaseTick (s : State) : Result :=
  if 1#8 < s.chaseCnt then .next { s with chaseCnt := s.chaseCnt - 1#8 } else chaseStep s

/-- NormalTick (R171); a stopped chase changes no register (R179). -/
def normalTick (s : State) : Result :=
  if s.held then .next (manualTick s)
  else if !s.chaseOn then .next (offTick s)
  else if s.stopped then .next s
  else chaseTick s

/-- SpecialTick once its data step is read: write the pattern, arm its duration, go to index `i + 1` (R172 to R174). -/
def signalShow (e : SigEntry) (i : BitVec 8) (s : State) : State :=
  { busWrite (sigPat e) s with sigCnt := sigDur e, sigIdx := i + 1#8 }

/-- SpecialTick (R172 to R175); the Bool says whether control passes to NormalTick. -/
def specialTick (s : State) : Host.Outcome (State × Bool) Fault Refusal :=
  if 1#16 < s.sigCnt then .next ({ s with sigCnt := s.sigCnt - 1#16 }, false)
  else
    andThen (readOr .sigReadOutsideTable (sigRead s.cfg s.sigId.toNat s.sigIdx.toNat)) fun e =>
      if isEnd32 e then
        andThen (readOr .sigReadOutsideTable (sigMode s.cfg s.sigId.toNat)) fun m =>
          match m with
          | .loop =>
            andThen (readOr .sigReadOutsideTable (sigRead s.cfg s.sigId.toNat 1)) fun e1 =>
              .next (signalShow e1 1#8 s, false)
          | .oneshot => .next (resume { s with sigId := 0#8 }, true)
      else .next (signalShow e s.sigIdx s, false)

/-- TickBody (R171). -/
def tickBody (s : State) : Result :=
  if s.sigId ≠ 0#8 then
    andThen (specialTick s) fun r => if r.2 then normalTick r.1 else .next r.1
  else normalTick s

/-- TICK (R170): with GUARD = 1 it is dropped and leaves no trace; else it is a performed TICK, which the observation counts (R184). -/
def tick (s : State) : Result :=
  if s.guard then .next s else tickBody (counted s)

end Sys2Proof.Machine
end

