-- ==== Sys2Proof/WellFormed.lean ====
section
/-! DEFINITION. The checks: which configurations a model may take (U1: R7, R55, R60), and which numbers the assembler takes
as operands (R82, R89, R108). Commands and channel windows need no check: their types hold nothing ill-formed. -/

namespace Sys2Proof

open Machine

/-- A chase table is well-formed (R55): at most `maxLen` entries, and its first END lies at an index in 1..maxLen-1. -/
def chaseTableOk (maxLen : Nat) (t : List Byte) : Bool :=
  let e := t.findIdx isEnd8
  decide (t.length ≤ maxLen) && decide (1 ≤ e) && decide (e < t.length) && decide (e ≤ maxLen - 1)

/-- A signal table is well-formed (R60): at most `maxLen` entries, entry 0 a mode tag, its first END at an index in
2..maxLen-1, and every entry between the tag and END a data step. -/
def sigTableOk (maxLen : Nat) (t : List SigEntry) : Bool :=
  let e := t.findIdx isEnd32
  decide (t.length ≤ maxLen) && decide (2 ≤ e) && decide (e < t.length) && decide (e ≤ maxLen - 1)
    && (t.take 1).all (fun x => sigKind x == 1#2 || sigKind x == 2#2)
    && ((t.take e).drop 1).all (fun x => sigKind x == 0#2)

namespace Config

/-- NCHASE in 1..256, and CHASE_ROM holds NCHASE tables (R7, R52, U1). -/
def nchaseOk (c : Config) : Bool :=
  decide (1 ≤ c.nchase) && decide (c.nchase ≤ 256) && decide (c.chaseRom.length = c.nchase)

/-- NSIG in 1..255, and SIG_ROM holds one table for each id (R56, U1; log 17). -/
def nsigOk (c : Config) : Bool :=
  decide (1 ≤ c.nsig) && decide (c.nsig ≤ 255) && decide (c.sigRom.length = c.nsig)

/-- MAX_CHASE_LEN in 2..256 and MAX_SIG_LEN in 3..256 (R7; log 6). -/
def lengthsOk (c : Config) : Bool :=
  decide (2 ≤ c.maxChaseLen) && decide (c.maxChaseLen ≤ 256) && decide (3 ≤ c.maxSigLen) && decide (c.maxSigLen ≤ 256)

/-- W_BUS is at least 6 (R7, R210, U1). -/
def busOk (c : Config) : Bool := decide (6 ≤ c.wBus)

/-- Every chase table is well-formed (R55). -/
def chaseOk (c : Config) : Bool := c.chaseRom.all (chaseTableOk c.maxChaseLen)

/-- Every signal table is well-formed (R60). -/
def sigOk (c : Config) : Bool := c.sigRom.all (sigTableOk c.maxSigLen)

/-- A configuration a model may take; any other is refused before any step (R232, U1). -/
def wellFormed (c : Config) : Bool :=
  c.nchaseOk && c.nsigOk && c.lengthsOk && c.busOk && c.chaseOk && c.sigOk

end Config

/-- The assembler takes a number as imm8 when it is in 0..255 (R82, R89). -/
def imm8Ok (n : Nat) : Bool := decide (n ≤ 255)

/-- The assembler takes a number as imm6 when it is in 0..63 (R82, R89). -/
def imm6Ok (n : Nat) : Bool := decide (n ≤ 63)

/-- The assembler takes a number as imm1 when it is 0 or 1 (R82, R89). -/
def imm1Ok (n : Nat) : Bool := decide (n ≤ 1)

/-- The operand range of PAT.AUTO, 2..20 (R108, R102): the speeds that DerivePatternCommand produces (R103, R104). That R89's
check of an operand against its form's range applies to it is DEDUCED (log 23). -/
def patAutoOk (n : Nat) : Bool := decide (2 ≤ n) && decide (n ≤ 20)

/-- A PatternCommand of R102: the speed of AUTO lies in 2..20. -/
def PatternCommand.wellFormed : PatternCommand → Bool
  | .masterOff => true
  | .auto s => patAutoOk s.toNat
  | .manual _ => true

/-- A pseudo-instruction of R90: the operand of PAT.AUTO lies in 2..20 (R108; log 23), and the types hold the other operands. -/
def Pseudo.wellFormed : Pseudo → Bool
  | .clrsig => true
  | .resume => true
  | .patMasterOff => true
  | .patAuto s => patAutoOk s.toNat
  | .patManual _ => true
  | .dispatch _ => true

end Sys2Proof
end

