-- ==== Sys2Proof/Machine/Agents.lean ====
section
/-! DEFINITION. The agents' moves (R6, R12): FG's three phases of a command and its dispatches, TMR's TICK, reset; and which agent makes
the next one (R66, R235). -/

namespace Sys2Proof.Machine

/-- BEGIN of word w (R130). -/
def beginCommand (w : Word) (s : State) : State := { setGuard s with phase := .begun w }

/-- APPLY of word w: `Execute(Decode(w))` (R130), an ILLEGAL word as NOP (R85). -/
def applyCommand (w : Word) (s : State) : Result :=
  andThen
    (match decode w with
      | .ok i => exec i s
      | .error why => execIllegal why s)
    fun t => .next { t with phase := .applied }

/-- END of the command in progress (R130). -/
def endCommand (s : State) : State := { clearGuard s with phase := .idle }

/-- FG issues its next action: a word begins; a dispatch begins its first word and leaves the others to follow at once (R100, R110;
log 11). With nothing to issue nothing changes (log 5). -/
def issueNext (s : State) : State :=
  match s.expansion with
  | w :: ws => beginCommand w { s with expansion := ws }
  | [] =>
    match s.queue with
    | [] => s
    | .word w :: q => beginCommand w { s with queue := q }
    | .dispatch win :: q =>
      match dispatchWords win with
      | [] => { s with queue := q }
      | w :: ws => beginCommand w { s with queue := q, expansion := ws }

/-- FG's next step (R130, R131). -/
def fgStep (s : State) : Result :=
  match s.phase with
  | .idle => .next (issueNext s)
  | .begun w => applyCommand w s
  | .applied => .next (endCommand s)

/-- FG has a step to make: it is inside a command, or has something to issue. -/
def fgReady (s : State) : Bool := s.phase != .idle || !s.expansion.isEmpty || !s.queue.isEmpty

/-- One step of an agent (R12). -/
def agentStep (a : Agent) (s : State) : Result :=
  match a with
  | .fg => fgStep s
  | .tmr => tick s
  | .rst => .next (resetBlock s)

/-- Which agent makes the next step (R66, R235, U7; log 4, log 5): the one the schedule names; with no schedule left, TMR where FG has
no step to make, and else the one a free value picks. -/
def nextAgent (s : State) : Agent :=
  match s.sched with
  | a :: _ => a
  | [] => if fgReady s then (if Config.foregroundFirst s.turn then .fg else .tmr) else .tmr

/-- The state with the choice of `nextAgent` used up. -/
def choiceUsed (s : State) : State :=
  match s.sched with
  | _ :: r => { s with sched := r }
  | [] => if fgReady s then { s with turn := s.turn + 1 } else s

/-- One step of the machine: no step is made from an ill-formed configuration (R232, U1; log 6). -/
def machineStep (s : State) : Result :=
  if s.cfg.wellFormed then agentStep (nextAgent s) (choiceUsed s) else .refused .illFormedConfiguration

/-- The state in which FG has issued word w and its BEGIN is done, and FG makes the next step (log 12). -/
def portHolds (w : Word) (s : State) : State :=
  { s with phase := .begun w, guard := true, sched := .fg :: s.sched }

end Sys2Proof.Machine
end

