-- ==== Sys2Proof/Machine/Step.lean ====
section
/-! DEFINITION. The machine's step (R12), and how a command word is placed where the next step applies it. -/

namespace Sys2Proof.Machine

/-- One step of the machine (R12). -/
def step (s : State) : Host.Outcome State Fault Refusal := machineStep s

/-- The word whose bits are the low `nbits` bits of w stands on the command port with its BEGIN done, so that the next step is its
APPLY (R130; log 12). -/
def State.withFetchWord (s : State) (nbits w : Nat) : State := portHolds (portWord nbits w) s

end Sys2Proof.Machine
end

