-- ==== Sys2Proof/Machine/Assembler.lean ====
section
/-! DEFINITION. The assembler of R89 and R90: from the lines of a listing to command words, and how a listing becomes what FG issues and
when TMR ticks. Textual points that R89 leaves open are in log 22. -/

namespace Sys2Proof.Machine

/-- A line of a listing, read (R89). -/
inductive Line where
  /-- Nothing but blanks and a comment. -/
  | blank
  /-- One command. -/
  | command (i : Instr)
  /-- A pseudo-instruction (R90). -/
  | pseudo (p : Pseudo)
  /-- `TICK*n`, or `TICK` for n = 1: n TICK strobes fall here; nothing is encoded. -/
  | ticks (n : Nat)
deriving DecidableEq, Repr

/-- Why a line is an assembly error: the assembler emits no word for it (R89). -/
inductive AsmError where
  | unknownMnemonic
  | wrongOperands
  | badNumber
  | outOfRange
deriving DecidableEq, Repr

/-- The value of a digit in a base of at most 16. -/
def digitValue (base : Nat) (c : Char) : Option Nat :=
  let n := c.toNat
  let d :=
    if 48 ≤ n ∧ n ≤ 57 then n - 48
    else if 97 ≤ n ∧ n ≤ 102 then n - 87
    else if 65 ≤ n ∧ n ≤ 70 then n - 55
    else 16
  if d < base then some d else none

/-- The value of the digits of a list, on top of `acc`. -/
def digitsValue (base acc : Nat) : List Char → Option Nat
  | [] => some acc
  | c :: cs =>
    match digitValue base c with
    | some d => digitsValue base (acc * base + d) cs
    | none => none

/-- A number: decimal, `0x` hexadecimal or `0b` binary (R89). -/
def numberValue : List Char → Option Nat
  | [] => none
  | '0' :: 'x' :: c :: cs => digitsValue 16 0 (c :: cs)
  | '0' :: 'b' :: c :: cs => digitsValue 2 0 (c :: cs)
  | c :: cs => digitsValue 10 0 (c :: cs)

/-- `; text` is a comment (R89). -/
def stripComment (cs : List Char) : List Char := cs.takeWhile (· != ';')

/-- The words of a line, between blanks, tabs and commas; `cur` is the one being read, reversed. -/
def splitWords (cur : List Char) : List Char → List (List Char)
  | [] => if cur.isEmpty then [] else [cur.reverse]
  | c :: cs =>
    if c = ' ' ∨ c = '\t' ∨ c = ',' then
      (if cur.isEmpty then splitWords [] cs else cur.reverse :: splitWords [] cs)
    else splitWords (c :: cur) cs

/-- A line without operands. -/
def noOperand (l : Line) (ops : List (List Char)) : Except AsmError Line :=
  if ops.isEmpty then .ok l else .error .wrongOperands

/-- A line with one operand `#n` in the range of its form; out of it is an assembly error (R82, R89). -/
def oneOperand (ok : Nat → Bool) (mk : Nat → Line) (ops : List (List Char)) : Except AsmError Line :=
  match ops with
  | [ '#' :: cs ] =>
    match numberValue cs with
    | some n => if ok n then .ok (mk n) else .error .outOfRange
    | none => .error .badNumber
  | _ => .error .wrongOperands

/-- The ten bytes of `DISPATCH <win0..win9>` (R90). -/
def windowOperand (ops : List (List Char)) : Except AsmError Line :=
  match ops.mapM numberValue with
  | none => .error .badNumber
  | some ns =>
    if ns.all imm8Ok then
      match ns.map (BitVec.ofNat 8) with
      | [a, b, c, d, e, f, g, h, i, j] => .ok (.pseudo (.dispatch #v[a, b, c, d, e, f, g, h, i, j]))
      | _ => .error .wrongOperands
    else .error .outOfRange

/-- `TICK*n` (R89). -/
def tickLine (mn : List Char) (ops : List (List Char)) : Except AsmError Line :=
  match mn with
  | 'T' :: 'I' :: 'C' :: 'K' :: '*' :: cs =>
    match numberValue cs with
    | some n => noOperand (.ticks n) ops
    | none => .error .badNumber
  | _ => .error .unknownMnemonic

/-- A line whose mnemonic is `mn` and whose operands are `ops` (R89, R90). PAT.AUTO takes an operand in 2..20 only (R108; log 23). -/
def readLine (mn : List Char) (ops : List (List Char)) : Except AsmError Line :=
  let name := String.ofList mn
  if name = "NOP" then noOperand (.command .nop) ops
  else if name = "SETSPEED" then oneOperand imm8Ok (fun n => .command (.setspeed (BitVec.ofNat 8 n))) ops
  else if name = "SETSEQ" then oneOperand imm8Ok (fun n => .command (.setseq (BitVec.ofNat 8 n))) ops
  else if name = "SETPAT" then oneOperand imm6Ok (fun n => .command (.setpat (BitVec.ofNat 6 n))) ops
  else if name = "CLRPAT" then noOperand (.command .clrpat) ops
  else if name = "SIGNAL" then oneOperand imm8Ok (fun n => .command (.signal (BitVec.ofNat 8 n))) ops
  else if name = "ON" then noOperand (.command .turnOn) ops
  else if name = "OFF" then noOperand (.command .turnOff) ops
  else if name = "STOP" then oneOperand imm1Ok (fun n => .command (.stop (BitVec.ofNat 1 n))) ops
  else if name = "TICK" then noOperand (.ticks 1) ops
  else if name = "CLRSIG" then noOperand (.pseudo .clrsig) ops
  else if name = "RESUME" then noOperand (.pseudo .resume) ops
  else if name = "PAT.MASTEROFF" then noOperand (.pseudo .patMasterOff) ops
  else if name = "PAT.AUTO" then oneOperand patAutoOk (fun n => .pseudo (.patAuto (BitVec.ofNat 8 n))) ops
  else if name = "PAT.MANUAL" then oneOperand imm6Ok (fun n => .pseudo (.patManual (BitVec.ofNat 6 n))) ops
  else if name = "DISPATCH" then windowOperand ops
  else tickLine mn ops

/-- One line of a listing (R89). -/
def assembleLine (text : String) : Except AsmError Line :=
  match splitWords [] (stripComment text.toList) with
  | [] => .ok .blank
  | mn :: ops => readLine mn ops

/-- The words the assembler emits for a line, in order (R89, R90); none for a pseudo-instruction whose operand is out of its range
(R89, R108; log 23). -/
def lineWords : Line → List Word
  | .blank => []
  | .command i => [encode i]
  | .pseudo p => if p.wellFormed then (expandPseudo p).map encode else []
  | .ticks _ => []

/-- What FG issues for a line: a dispatched window as one action, so that nothing comes between its words (R110). -/
def lineActions : Line → List FgAction
  | .pseudo (.dispatch win) => [.dispatch win]
  | l => (lineWords l).map .word

/-- Who moves for a line: FG three times for each word (R130), TMR once for each TICK (R89). -/
def lineMoves : Line → List Agent
  | .ticks n => List.replicate n .tmr
  | l => List.replicate (3 * (lineWords l).length) .fg

/-- The listing is what FG issues next, with the TICKs between commands where the listing has them (R89; log 12). -/
def loadListing (ls : List Line) (s : State) : State :=
  { s with queue := s.queue ++ ls.flatMap lineActions, sched := s.sched ++ ls.flatMap lineMoves }

end Sys2Proof.Machine
end

