-- ==== Sys2Proof/Machine/Flags.lean ====
section
/-! DEFINITION. The flags decide which state governs the bus (R38, R40). The block has no condition codes, so no operation computes
a flag from a result (R40). -/

namespace Sys2Proof.Machine

/-- Who governs the bus at a TICK (R38). -/
inductive Governing where
  | special
  | manual
  | chaseOff
  | chaseStopped
  | chaseRun
deriving DecidableEq, Repr

/-- `NormalTick`'s choice: which state governs once no special signal does (R38, R171). -/
def normalGoverning (s : State) : Governing :=
  if s.held then .manual
  else if !s.chaseOn then .chaseOff
  else if s.stopped then .chaseStopped
  else .chaseRun

/-- `Governing(s)` (R38). -/
def governing (s : State) : Governing := if s.sigId ≠ 0#8 then .special else normalGoverning s

end Sys2Proof.Machine
end

