-- ==== Sys2Proof/Safety.lean ====
section
/-! DEFINITION. What a good state of the machine is (R37 and the rules that feed it), and the words statements are made in. -/

namespace Sys2Proof.Machine

/-- GUARD is 1 exactly while FG is inside a command (R130, R131). -/
abbrev GuardFollowsPhase (s : State) : Prop := s.guard = true ↔ s.phase ≠ .idle

/-- SIG_ID names no signal beyond NSIG, SIG_IDX stays below MAX_SIG_LEN, and while a signal is active SIG_IDX is past the mode tag and
not past END (R23, R37, R174). -/
abbrev SignalInTable (s : State) : Prop :=
  s.sigId.toNat ≤ s.cfg.nsig ∧ s.sigIdx.toNat ≤ s.cfg.maxSigLen - 1 ∧
    (s.sigId ≠ 0#8 → 1 ≤ s.sigIdx.toNat ∧ s.sigIdx.toNat ≤ sigEnd s.cfg s.sigId.toNat)

/-- SEQ names a chase table and CHASE_IDX is not past its END (R30, R31, R37, R181). -/
abbrev ChaseInTable (s : State) : Prop :=
  s.seqNum.toNat < s.cfg.nchase ∧ s.chaseIdx.toNat ≤ chaseEnd s.cfg s.seqNum.toNat

/-- The tick interval is at least 1 (R33, R37). -/
abbrev SpeedAtLeastOne (s : State) : Prop := 1 ≤ s.speed.toNat

/-- The idle levels of the pins (R36, R217): CLK and LAT at 0, and DAT at the last bit shifted. -/
abbrev PinsIdle (s : State) : Prop :=
  s.clk = false ∧ s.lat = false ∧ s.dat = (s.lastValid && s.lastBus.getLsbD 0)

/-- SR is W_BUS bits wide (R44), and after a BusWrite both its parts hold the value written (R215). -/
abbrev SrHoldsLastWrite (s : State) : Prop :=
  s.srShift.length = s.cfg.wBus ∧ s.srOut.length = s.cfg.wBus ∧
    (s.lastValid = true → s.srShift = busBits s.cfg.wBus s.lastBus ∧ s.srOut = busBits s.cfg.wBus s.lastBus)

/-- A good state: what every state reached from reset of a well-formed configuration satisfies (R37). -/
abbrev Good (s : State) : Prop :=
  s.cfg.wellFormed = true ∧ GuardFollowsPhase s ∧ SignalInTable s ∧ ChaseInTable s ∧ SpeedAtLeastOne s ∧
    PinsIdle s ∧ SrHoldsLastWrite s

/-- The two forms of the observation agree: the pin events are those of the BusWrites, in order (R184). -/
abbrev LogsAgree (s : State) : Prop := s.pinLog = s.writes.flatMap fun x => busEvents s.cfg.wBus x.2

/-- `k` steps of the machine, stopping at the first fault or refusal. -/
def runSteps : Nat → State → Result
  | 0, s => .next s
  | k + 1, s => andThen (step s) (runSteps k)

/-- `k` TICK strobes in a row, stopping at the first fault. -/
def tickTimes : Nat → State → Result
  | 0, s => .next s
  | k + 1, s => andThen (tick s) (tickTimes k)

/-- The commands of a list applied one after the other, each from the state the one before it left (R110). -/
def execAll : List Instr → State → Result
  | [], s => .next s
  | i :: is, s => andThen (exec i s) (execAll is)

/-- The next step is the APPLY of command i (R130). -/
def Applies (i : Instr) (s : State) : Prop := nextAgent s = .fg ∧ ∃ w, s.phase = .begun w ∧ decode w = .ok i

/-! Runs, and the fairness premise of R272 and D44. -/

/-- A run of the machine: every state of it steps to the one after it. -/
def IsRun (r : Nat → State) : Prop := ∀ n, step (r n) = .next (r (n + 1))

/-- `p` holds at finitely many places of a run only. -/
def Finitely (p : Nat → Prop) : Prop := ∃ n, ∀ m, n ≤ m → ¬ p m

/-- Step n of the run is the BEGIN by which FG issues a word (R130, R131). -/
def IssuesWordAt (r : Nat → State) (n : Nat) : Prop :=
  nextAgent (r n) = .fg ∧ (r n).phase = .idle ∧ (r (n + 1)).phase ≠ .idle

/-- Step n of the run is a TICK strobe (R6, R88). -/
def StrobesAt (r : Nat → State) (n : Nat) : Prop := nextAgent (r n) = .tmr

/-- Step n of the run is a TICK strobe that finds GUARD = 1 and is dropped (R170). -/
def LosesTickAt (r : Nat → State) (n : Nat) : Prop := StrobesAt r n ∧ (r n).guard = true

/-- The fairness premise (R272, D44): if FG issues finitely many words, then all but finitely many TICKs are performed. The step does
not enforce it; a claim about runs takes it as a premise (log 5). -/
def TicksNotStarved (r : Nat → State) : Prop := Finitely (IssuesWordAt r) → Finitely (LosesTickAt r)

/-- The state after a complete BusWrite(v) from idle pins (R211, R215, R217): SR holds `zext_W_BUS(v)` in both its parts, CLK and LAT
are back at 0, DAT holds v[0], LAST_BUS is v, and the observation has gained the write and its pin events. -/
def afterBusWrite (v : Pattern) (s : State) : State :=
  { s with
    clk := false
    dat := v.getLsbD 0
    lat := false
    srShift := busBits s.cfg.wBus v
    srOut := busBits s.cfg.wBus v
    lastBus := v
    lastValid := true
    writes := s.writes ++ [(s.performed, v)]
    pinLog := s.pinLog ++ busEvents s.cfg.wBus v }

/-- The state with the registers that no rule reads just now at 0: SIG_IDX and SIG_CNT while no signal is active, LAST_BUS before the
first BusWrite (U14). -/
def hideUnread (s : State) : State :=
  { s with
    sigIdx := if s.sigId = 0#8 then 0#8 else s.sigIdx
    sigCnt := if s.sigId = 0#8 then 0#16 else s.sigCnt
    lastBus := if s.lastValid then s.lastBus else 0#6 }

end Sys2Proof.Machine
end

