-- ==== Sys2Proof/Certificates/Slice0/Obligations.lean ====
section
/-! DEFINITION. The statements about the model, for the provers. -/

open Sys2Proof Sys2Proof.Machine

/-! ## Encoding (R81 to R85, R90) -/

/-- Every command is what its own word decodes to: no operand bit is dropped (R82 to R84). -/
def Obligations.EncodedCommandDecodesToItself : Prop :=
  ∀ i : Instr, decode (encode i) = .ok i

/-- A word that decodes to a command is that command's word: each command has one encoding (R83, R84). -/
def Obligations.DecodedWordIsItsEncoding : Prop :=
  ∀ (w : Word) (i : Instr), decode w = .ok i → encode i = w

/-- R83: the nine rows, and no word selects two of them. -/
def Obligations.OpcodeRowsDoNotOverlap : Prop :=
  opcodeMap.map (fun r => (r.1.mnemonic, r.1.pat, r.1.mask)) =
      [("NOP", 0x0000#16, 0xFFFF#16), ("SETSPEED", 0x1000#16, 0xFF00#16), ("SETSEQ", 0x2000#16, 0xFF00#16),
       ("SETPAT", 0x3000#16, 0xFFC0#16), ("CLRPAT", 0x4000#16, 0xFFFF#16), ("SIGNAL", 0x5000#16, 0xFF00#16),
       ("ON", 0x6000#16, 0xFFFF#16), ("OFF", 0x7000#16, 0xFFFF#16), ("STOP", 0x8000#16, 0xFFFE#16)] ∧
    ∀ w : Word, ∀ r ∈ opcodeMap, ∀ q ∈ opcodeMap,
      w &&& r.1.mask = r.1.pat → w &&& q.1.mask = q.1.pat → r.1.mnemonic = q.1.mnemonic

/-- R84: a word that selects a row decodes to that row's command; ILLEGAL is every word with RSV ≠ 0, or OP in 0x9..0xF, or an operand
that breaks its form's "legal when" column. -/
def Obligations.IllegalWordsAreExactlyThese : Prop :=
  ∀ w : Word,
    (∀ r ∈ opcodeMap, w &&& r.1.mask = r.1.pat → decode w = .ok (r.2 w)) ∧
    ((∃ why, decode w = .error why) ↔
      w.extractLsb' 8 4 ≠ 0#4 ∨ 9#4 ≤ w.extractLsb' 12 4 ∨
      ((w.extractLsb' 12 4 = 0#4 ∨ w.extractLsb' 12 4 = 4#4 ∨ w.extractLsb' 12 4 = 6#4 ∨ w.extractLsb' 12 4 = 7#4) ∧
        w.extractLsb' 0 8 ≠ 0#8) ∨
      (w.extractLsb' 12 4 = 3#4 ∧ w.extractLsb' 6 2 ≠ 0#2) ∨
      (w.extractLsb' 12 4 = 8#4 ∧ w.extractLsb' 1 7 ≠ 0#7))

/-- The worked encodings of R92, legal and ILLEGAL. -/
def Obligations.WorkedWordsDecode : Prop :=
  decode 0x100B#16 = .ok (.setspeed 11#8) ∧ decode 0x2001#16 = .ok (.setseq 1#8) ∧
  decode 0x302A#16 = .ok (.setpat 0b101010#6) ∧ decode 0x4000#16 = .ok .clrpat ∧
  decode 0x5005#16 = .ok (.signal 5#8) ∧ decode 0x5000#16 = .ok (.signal 0#8) ∧
  decode 0x6000#16 = .ok .turnOn ∧ decode 0x7000#16 = .ok .turnOff ∧
  decode 0x8001#16 = .ok (.stop 1#1) ∧ decode 0x8000#16 = .ok (.stop 0#1) ∧ decode 0x0000#16 = .ok .nop ∧
  ∀ w ∈ [0x3040#16, 0x6001#16, 0x0100#16, 0x8002#16, 0x9000#16], ∃ why, decode w = .error why

/-- The words each pseudo-instruction issues, in order (R90, R107 to R109). -/
def Obligations.PseudoInstructionsExpand : Prop :=
  ((expandPseudo .clrsig).map encode = [0x5000#16]) ∧
  ((expandPseudo .resume).map encode = [0x8000#16]) ∧
  ((expandPseudo .patMasterOff).map encode = [0x3000#16, 0x7000#16]) ∧
  (∀ s : Byte, (expandPseudo (.patAuto s)).map encode = [0x1000#16 ||| s.setWidth 16, 0x6000#16, 0x4000#16]) ∧
  (∀ m : Pattern, (expandPseudo (.patManual m)).map encode = [0x3000#16 ||| m.setWidth 16]) ∧
  (∀ win : Window, (expandPseudo (.dispatch win)).map encode = dispatchWords win)

/-! ## Commands: the whole next state of phase APPLY (R132 to R142) -/

/-- R141: NOP's APPLY changes no register, and a TICK during its guard window is still dropped, before its APPLY and after it. -/
def Obligations.NopChangesNothing : Prop :=
  encode .nop = 0x0000#16 ∧
  ∀ s : State,
    exec .nop s = .next s ∧
    tick (beginCommand 0x0000#16 s) = .next (beginCommand 0x0000#16 s) ∧
    ∃ t, applyCommand 0x0000#16 (beginCommand 0x0000#16 s) = .next t ∧ tick t = .next t

/-- R132: SETSPEED stores max(1, x) in SPEED, and changes nothing else. -/
def Obligations.SetspeedStoresAtLeastOne : Prop :=
  ∀ (x : Byte) (s : State),
    encode (.setspeed x) = 0x1000#16 ||| x.setWidth 16 ∧
    exec (.setspeed x) s = .next { s with speed := if x = 0#8 then 1#8 else x }

/-- R133: SETSEQ selects table n and restarts it in one APPLY; n of NCHASE or more changes nothing. -/
def Obligations.SetseqSelectsAndRestarts : Prop :=
  ∀ (n : Byte) (s : State),
    encode (.setseq n) = 0x2000#16 ||| n.setWidth 16 ∧
    exec (.setseq n) s =
      .next (if n.toNat < s.cfg.nchase then { s with seqNum := n, chaseIdx := 0#8, chaseCnt := 0#8 } else s)

/-- R134: SETPAT holds the pattern; a word of SETPAT's opcode with X[7:6] ≠ 0 is ILLEGAL. -/
def Obligations.SetpatHoldsThePattern : Prop :=
  ∀ (p : Pattern) (s : State),
    encode (.setpat p) = 0x3000#16 ||| p.setWidth 16 ∧
    exec (.setpat p) s = .next { s with held := true, heldVal := p } ∧
    ∀ x : BitVec 2, x ≠ 0#2 → ∃ why, decode (0x30#8 ++ x ++ p) = .error why

/-- R135: CLRPAT with HELD = 1 releases the pattern, zeroes CHASE_CNT and clears OFF_DONE, keeping CHASE_IDX and HELD_VAL; with
HELD = 0 it changes nothing. -/
def Obligations.ClrpatReleasesThePattern : Prop :=
  encode .clrpat = 0x4000#16 ∧
  ∀ s : State,
    exec .clrpat s = .next (if s.held = true then { s with held := false, chaseCnt := 0#8, offDone := false } else s)

/-- R136: SIGNAL 0 clears an active signal and resumes; 1..NSIG starts, restarts or pre-empts; any other id changes nothing. -/
def Obligations.SignalStartsOrClears : Prop :=
  ∀ (i : Byte) (s : State),
    encode (.signal i) = 0x5000#16 ||| i.setWidth 16 ∧
    exec (.signal i) s =
      .next
        (if i = 0#8 then
          (if s.sigId = 0#8 then s
           else { s with sigId := 0#8, chaseIdx := 0#8, chaseCnt := 0#8, offDone := false })
         else if i.toNat ≤ s.cfg.nsig then { s with sigId := i, sigIdx := 1#8, sigCnt := 0#16 }
         else s)

/-- R137: ON enables a chase that is off, zeroes CHASE_CNT and clears OFF_DONE; a chase that is on stays as it is. -/
def Obligations.OnEnablesTheChase : Prop :=
  encode .turnOn = 0x6000#16 ∧
  ∀ s : State,
    exec .turnOn s = .next (if s.chaseOn = true then s else { s with chaseOn := true, chaseCnt := 0#8, offDone := false })

/-- R138: OFF disables a chase that is on and clears OFF_DONE; a chase that is off stays as it is. -/
def Obligations.OffDisablesTheChase : Prop :=
  encode .turnOff = 0x7000#16 ∧
  ∀ s : State,
    exec .turnOff s = .next (if s.chaseOn = true then { s with chaseOn := false, offDone := false } else s)

/-- R140: STOP stores its operand in STOPPED. -/
def Obligations.StopStoresItsOperand : Prop :=
  ∀ (b : BitVec 1) (s : State),
    encode (.stop b) = 0x8000#16 ||| b.setWidth 16 ∧
    exec (.stop b) s = .next { s with stopped := decide (b = 1#1) }

/-- R271: which commands repeat without effect, which restart, and which only store their operand. -/
def Obligations.RepeatedCommandsAreIdempotentOrRestart : Prop :=
  (∀ i ∈ [Instr.turnOn, .turnOff, .clrpat, .signal 0#8], ∀ s t : State, exec i s = .next t → exec i t = .next t) ∧
  (∀ s : State, s.chaseOn = true → exec .turnOn s = .next s) ∧
  (∀ s : State, s.chaseOn = false → exec .turnOff s = .next s) ∧
  (∀ s : State, s.held = false → exec .clrpat s = .next s) ∧
  (∀ s : State, s.sigId = 0#8 → exec (.signal 0#8) s = .next s) ∧
  (∀ s : State, s.seqNum.toNat < s.cfg.nchase →
    exec (.setseq s.seqNum) s = .next { s with chaseIdx := 0#8, chaseCnt := 0#8 }) ∧
  (∀ s : State, s.sigId ≠ 0#8 → s.sigId.toNat ≤ s.cfg.nsig →
    exec (.signal s.sigId) s = .next { s with sigIdx := 1#8, sigCnt := 0#16 }) ∧
  (∀ (s : State) (p : Pattern), exec (.setpat p) s = .next { s with held := true, heldVal := p }) ∧
  (∀ (s : State) (x : Byte), x ≠ 0#8 → exec (.setspeed x) s = .next { s with speed := x }) ∧
  (∀ (s : State) (b : BitVec 1), exec (.stop b) s = .next { s with stopped := b == 1#1 })

/-! ## How a command executes (R130, R131, R142, R170) -/

/-- The APPLY step runs the decoded command, and FG moves on to END (R130). The second clause: a word placed with
`withFetchWord` is applied by the very next step; how a word is placed is the model's convention (DESIGN CHOICE, log 12). -/
def Obligations.StepAppliesTheDecodedCommand : Prop :=
  ∀ (s t : State) (w : Word) (i : Instr) (rest : List Agent),
    s.cfg.wellFormed = true → decode w = .ok i →
    (s.phase = .begun w → s.sched = .fg :: rest → exec i { s with sched := rest } = .next t →
      step s = .next { t with phase := .applied }) ∧
    (exec i { s with phase := .begun w, guard := true } = .next t →
      step (s.withFetchWord 16 w.toNat) = .next { t with phase := .applied })

/-- R142: an ILLEGAL word's APPLY changes no register. -/
def Obligations.IllegalWordActsAsNop : Prop :=
  ∀ (s : State) (w : Word) (why : Illegal) (rest : List Agent),
    s.cfg.wellFormed = true → decode w = .error why → s.phase = .begun w → s.sched = .fg :: rest →
    step s = .next { s with phase := .applied, sched := rest }

/-- R130: three FG steps take a word of the queue through BEGIN (GUARD set), APPLY (its command, or nothing for an ILLEGAL word) and END
(GUARD cleared). -/
def Obligations.CommandTakesThreePhases : Prop :=
  ∀ (s : State) (w : Word) (q : List FgAction) (rest : List Agent),
    s.cfg.wellFormed = true → s.phase = .idle → s.expansion = [] → s.queue = .word w :: q →
    s.sched = .fg :: .fg :: .fg :: rest →
    step s = .next { s with guard := true, phase := .begun w, queue := q, sched := .fg :: .fg :: rest } ∧
    (∀ i t, decode w = .ok i →
      exec i { s with guard := true, phase := .begun w, queue := q, sched := rest } = .next t →
      runSteps 3 s = .next { t with guard := false, phase := .idle }) ∧
    (∀ why, decode w = .error why →
      runSteps 3 s = .next { s with guard := false, phase := .idle, queue := q, sched := rest })

/-- R131: a BEGIN comes only after the END of the word before it, and the words of an expansion come before any other action (R110). -/
def Obligations.CommandsNeverNest : Prop :=
  (∀ (s t : State) (w : Word), step s = .next t → t.phase = .begun w → s.phase ≠ .begun w →
    nextAgent s = .fg ∧ s.phase = .idle) ∧
  (∀ (s : State) (w : Word) (ws : List Word), s.cfg.wellFormed = true → nextAgent s = .fg → s.phase = .idle →
    s.expansion = w :: ws →
    ∃ t, step s = .next t ∧ t.phase = .begun w ∧ t.expansion = ws ∧ t.queue = s.queue)

/-- R170: a TICK strobe with GUARD = 1 changes no register, pin or counter; with GUARD = 0 it is TickBody (R171), performed once. -/
def Obligations.GuardDropsTicks : Prop :=
  ∀ (s : State) (rest : List Agent), s.cfg.wellFormed = true → s.sched = .tmr :: rest →
    (s.guard = true → step s = .next { s with sched := rest }) ∧
    (s.guard = false → step s = tickBody (counted { s with sched := rest }))

/-- However many TICK strobes fall between the phases of a command, the command ends in the state it ends in without them (R67, R130,
R170, R266): no TICK sees a torn update, and none is made up later. -/
def Obligations.TicksInTheGuardWindowAreLost : Prop :=
  ∀ (s : State) (w : Word) (q : List FgAction) (rest : List Agent) (a b : Nat),
    s.cfg.wellFormed = true → s.phase = .idle → s.expansion = [] → s.queue = .word w :: q →
    runSteps (a + b + 3)
        { s with sched := .fg :: (List.replicate a .tmr ++ .fg :: (List.replicate b .tmr ++ .fg :: rest)) } =
      runSteps 3 { s with sched := .fg :: .fg :: .fg :: rest }

/-- R235: both orders are admitted. From every state a schedule that names FG makes the next step FG's, and one that names TMR makes it a
TICK. With no order given and FG with a step to make, it is one of the two, which one being a free value (log 4); with nothing for FG
to do it is a TICK (the model's choice, log 5). -/
def Obligations.EitherReadyAgentMayGoFirst : Prop :=
  ∀ s : State, s.cfg.wellFormed = true →
    (∀ rest, step { s with sched := .fg :: rest } = fgStep { s with sched := rest } ∧
      step { s with sched := .tmr :: rest } = tick { s with sched := rest }) ∧
    (s.sched = [] →
      (fgReady s = true →
        step s = fgStep { s with turn := s.turn + 1 } ∨ step s = tick { s with turn := s.turn + 1 }) ∧
      (fgReady s = false → step s = tick s))

/-! ## Pattern dispatch (R100 to R113) -/

/-- R103, R105, R106: the PatternCommand of a window. -/
def Obligations.WindowGivesItsPatternCommand : Prop :=
  ∀ win : Window,
    (win[0] = 0#8 → derivePatternCommand win = .masterOff) ∧
    (win[0] ≠ 0#8 → win[3] ≠ 0#8 →
      ∃ v : Byte, derivePatternCommand win = .auto v ∧ v.toNat = (255 - win[3].toNat) / 14 + 2) ∧
    (win[0] ≠ 0#8 → win[3] = 0#8 →
      ∃ m : Pattern, derivePatternCommand win = .manual m ∧
        (m.getLsbD 5 = true ↔ 128 ≤ win[4].toNat) ∧ (m.getLsbD 4 = true ↔ 128 ≤ win[5].toNat) ∧
        (m.getLsbD 3 = true ↔ 128 ≤ win[6].toNat) ∧ (m.getLsbD 2 = true ↔ 128 ≤ win[7].toNat) ∧
        (m.getLsbD 1 = true ↔ 128 ≤ win[8].toNat) ∧ (m.getLsbD 0 = true ↔ 128 ≤ win[9].toNat))

/-- R104: the speed law, and SETSPEED stores such a speed as it is. -/
def Obligations.SpeedLawOfTheSelector : Prop :=
  ∀ v u : Byte, v ≠ 0#8 → u ≠ 0#8 →
    (speedOf v).toNat = (255 - v.toNat) / 14 + 2 ∧ 2 ≤ (speedOf v).toNat ∧ (speedOf v).toNat ≤ 20 ∧
    ((speedOf v).toNat = 2 ↔ 242 ≤ v.toNat) ∧ ((speedOf v).toNat = 20 ↔ v.toNat ≤ 3) ∧
    (v.toNat ≤ u.toNat → (speedOf u).toNat ≤ (speedOf v).toNat) ∧
    ∀ s : State, exec (.setspeed (speedOf v)) s = .next { s with speed := speedOf v }

/-- The registers after each expansion's commands (R107 to R109): PAT.MASTEROFF, PAT.AUTO, PAT.MANUAL. -/
def Obligations.PatternCommandsSetTheirRegisters : Prop :=
  ∀ s : State,
    execAll (expandPattern .masterOff) s =
      .next { s with held := true, heldVal := 0#6, chaseOn := false, offDone := !s.chaseOn && s.offDone } ∧
    (∀ v : Byte,
      execAll (expandPattern (.auto v)) s =
        .next { s with
          speed := if v = 0#8 then 1#8 else v
          chaseOn := true
          held := false
          chaseCnt := if s.chaseOn = true ∧ s.held = false then s.chaseCnt else 0#8
          offDone := if s.chaseOn = true ∧ s.held = false then s.offDone else false }) ∧
    (∀ m : Pattern, execAll (expandPattern (.manual m)) s = .next { s with held := true, heldVal := m })

/-- R110: DISPATCH of a window issues the words of its PatternCommand in order and consecutively: after three FG steps for each word the
state is what its commands leave. Each word k has its own guard window: GUARD is 1 after its BEGIN and its APPLY, and 0 again after its
END. That the derivation takes no step of its own, so that three steps a word suffice, is log 11 (DEDUCED). -/
def Obligations.DispatchIssuesItsWordsConsecutively : Prop :=
  ∀ (s : State) (win : Window) (q : List FgAction) (rest : List Agent),
    s.cfg.wellFormed = true → s.phase = .idle → s.expansion = [] → s.queue = .dispatch win :: q →
    s.sched = List.replicate (3 * (dispatchWords win).length) .fg ++ rest →
    runSteps (3 * (dispatchWords win).length) s =
      execAll (expandPattern (derivePatternCommand win)) { s with guard := false, queue := q, sched := rest } ∧
    ∀ (k : Nat) (w : Word), (dispatchWords win)[k]? = some w →
      ∃ b a e,
        runSteps (3 * k + 1) s = .next b ∧ b.phase = .begun w ∧ b.guard = true ∧
        runSteps (3 * k + 2) s = .next a ∧ a.phase = .applied ∧ a.guard = true ∧
        runSteps (3 * k + 3) s = .next e ∧ e.phase = .idle ∧ e.guard = false ∧
        e.expansion = (dispatchWords win).drop (k + 1) ∧ e.queue = q

/-- R111: dispatch never issues SIGNAL, so no dispatch changes which signal is active. -/
def Obligations.DispatchNeverIssuesSignal : Prop :=
  ∀ (win : Window), (∀ i, Instr.signal i ∉ expandPattern (derivePatternCommand win)) ∧
    ∀ s t : State, execAll (expandPattern (derivePatternCommand win)) s = .next t →
      t.sigId = s.sigId ∧ t.sigIdx = s.sigIdx ∧ t.sigCnt = s.sigCnt

/-- R112: a TICK between two words of an expansion puts on the bus what a TICK before the expansion, or one after it, would put there. -/
def Obligations.NoExpansionShowsAThirdPattern : Prop :=
  ∀ (c : PatternCommand) (pre post : List Instr) (s u v t : State),
    Good s → s.guard = false → expandPattern c = pre ++ post →
    execAll pre s = .next u → execAll (expandPattern c) s = .next v → tick u = .next t →
    (∃ x, tick s = .next x ∧ x.writes = t.writes ∧ x.pinLog = t.pinLog ∧ x.srOut = t.srOut) ∨
    (∃ x, tick v = .next x ∧ x.writes = t.writes ∧ x.pinLog = t.pinLog ∧ x.srOut = t.srOut)

/-! ## The Bus Driver and the external register (R210 to R217) -/

/-- R213: the bits of a BusWrite are W_BUS - 6 zeros and then the pattern's bits 5 down to 0; R211: the events of one bit, in order. The parts
that R212 counts: W_BUS DAT events, 2 * W_BUS CLK events, 2 LAT events, so 3 * W_BUS + 2 in all; R212's own total is another (log 15). -/
def Obligations.BusShiftsPadThenPatternMsbFirst : Prop :=
  ∀ (w : Nat) (v : Pattern), 6 ≤ w →
    busEvents w v =
      (List.replicate (w - 6) false ++
          [v.getLsbD 5, v.getLsbD 4, v.getLsbD 3, v.getLsbD 2, v.getLsbD 1, v.getLsbD 0]).flatMap
        (fun b => [⟨.dat, b⟩, ⟨.clk, true⟩, ⟨.clk, false⟩]) ++ [⟨.lat, true⟩, ⟨.lat, false⟩] ∧
    (busEvents w v).countP (fun e => e.pin == .dat) = w ∧
    (busEvents w v).countP (fun e => e.pin == .clk) = 2 * w ∧
    (busEvents w v).countP (fun e => e.pin == .lat) = 2 ∧
    (busEvents w v).length = 3 * w + 2

/-- R212's total as R212 states it, 4 * W_BUS + 2: expected to FAIL, since R211's own events are 3 * W_BUS + 2 (log 15). -/
def Obligations.BusWriteHasFourEventsPerBit : Prop :=
  ∀ (w : Nat) (v : Pattern), 6 ≤ w → (busEvents w v).length = 4 * w + 2

/-- R215, R217: a BusWrite from idle pins leaves SR holding the zero-extended pattern, whatever SR held before, and the pins at their
idle levels; it changes nothing else but LAST_BUS, LAST_VALID and the observation. -/
def Obligations.BusWriteReplacesTheRegister : Prop :=
  ∀ (v : Pattern) (s : State), 6 ≤ s.cfg.wBus → s.clk = false → s.lat = false → s.srShift.length = s.cfg.wBus →
    busWrite v s = afterBusWrite v s

/-- R215: until the LAT rise, the lights keep what they showed. -/
def Obligations.LightsHoldUntilTheLatch : Prop :=
  ∀ (v : Pattern) (s : State) (w n : Nat), n ≤ 3 * w →
    (drivePins ((busEvents w v).take n) s).srOut = s.srOut

/-- What SR holds never reaches the block: two machines that differ only in SR make the same step but for SR (R42, R44). -/
def Obligations.RegisterContentsNeverReachTheBlock : Prop :=
  ∀ (s t : State) (a b : List Bool), step s = .next t →
    ∃ a' b', step { s with srShift := a, srOut := b } = .next { t with srShift := a', srOut := b' }

/-! ## The TICK (R171 to R183) -/

/-- R177: a held pattern is written when it differs from the last BusWrite, or when there was none. -/
def Obligations.HeldPatternIsWrittenWhenItDiffers : Prop :=
  ∀ s : State, Good s → s.guard = false → s.sigId = 0#8 → s.held = true →
    tick s =
      .next (if s.lastValid = true ∧ s.lastBus = s.heldVal then counted s else afterBusWrite s.heldVal (counted s))

/-- R178: a chase that is off writes all-off once, and then nothing at any number of TICKs. -/
def Obligations.OffIsWrittenExactlyOnce : Prop :=
  ∀ s : State, Good s → s.guard = false → s.sigId = 0#8 → s.held = false → s.chaseOn = false →
    (s.offDone = false → tick s = .next { afterBusWrite 0#6 (counted s) with offDone := true }) ∧
    (s.offDone = true → ∀ k, tickTimes k s = .next { s with performed := s.performed + k })

/-- R179: a stopped chase writes nothing and holds its counters, for any number of TICKs. -/
def Obligations.StoppedChaseHolds : Prop :=
  ∀ s : State, s.guard = false → s.sigId = 0#8 → s.held = false → s.chaseOn = true → s.stopped = true →
    ∀ k, tickTimes k s = .next { s with performed := s.performed + k }

/-- R180, R181: a chase TICK counts down, or writes the entry at CHASE_IDX, or at END the table's entry 0 in the same TICK. -/
def Obligations.ChaseTickCountsOrShowsAnEntry : Prop :=
  ∀ s : State, Good s → s.guard = false → s.sigId = 0#8 → s.held = false → s.chaseOn = true → s.stopped = false →
    (1 < s.chaseCnt.toNat → tick s = .next { counted s with chaseCnt := s.chaseCnt - 1#8 }) ∧
    (s.chaseCnt.toNat ≤ 1 →
      (s.chaseIdx.toNat < chaseEnd s.cfg s.seqNum.toNat →
        ∃ e, chaseRead s.cfg s.seqNum.toNat s.chaseIdx.toNat = some e ∧
          tick s = .next { afterBusWrite (e.extractLsb' 0 6) (counted s) with
            chaseIdx := s.chaseIdx + 1#8, chaseCnt := s.speed }) ∧
      (s.chaseIdx.toNat = chaseEnd s.cfg s.seqNum.toNat →
        ∃ e, chaseRead s.cfg s.seqNum.toNat 0 = some e ∧
          tick s = .next { afterBusWrite (e.extractLsb' 0 6) (counted s) with
            chaseIdx := 1#8, chaseCnt := s.speed }))

/-- R180, R269: an element on the bus stays there for the count it was armed with: no TICK before the count runs out writes anything. -/
def Obligations.ChaseElementStaysForItsCount : Prop :=
  ∀ (s : State) (k : Nat), s.guard = false → s.sigId = 0#8 → s.held = false → s.chaseOn = true → s.stopped = false →
    k < s.chaseCnt.toNat →
    tickTimes k s = .next { s with performed := s.performed + k, chaseCnt := s.chaseCnt - BitVec.ofNat 8 k }

/-- R181: from a table's start or END, with an element due, `endc * SPEED` TICKs write the table's data entries in order, one every SPEED
TICKs, and end at the table's END with the next element due: the table repeats with period `endc * SPEED`. -/
def Obligations.ChasePlaysItsTablePeriodically : Prop :=
  ∀ s : State, Good s → s.guard = false → s.sigId = 0#8 → s.held = false → s.chaseOn = true → s.stopped = false →
    s.chaseCnt.toNat ≤ 1 → (s.chaseIdx = 0#8 ∨ s.chaseIdx.toNat = chaseEnd s.cfg s.seqNum.toNat) →
    ∃ (table : List Byte) (t : State),
      chaseTable s.cfg s.seqNum.toNat = some table ∧
      tickTimes (chaseEnd s.cfg s.seqNum.toNat * s.speed.toNat) s = .next t ∧
      t.writes = s.writes ++
        (List.range (chaseEnd s.cfg s.seqNum.toNat)).map (fun j =>
          (s.performed + 1 + j * s.speed.toNat, (table.getD j 0#8).extractLsb' 0 6)) ∧
      Good t ∧ t.guard = false ∧ t.sigId = 0#8 ∧ t.held = false ∧ t.chaseOn = true ∧ t.stopped = false ∧
      t.chaseCnt.toNat ≤ 1 ∧ t.chaseIdx.toNat = chaseEnd s.cfg s.seqNum.toNat ∧
      t.seqNum = s.seqNum ∧ t.speed = s.speed ∧ t.cfg = s.cfg

/-- R172 to R174: a TICK under a special signal counts down, or shows the data step at SIG_IDX, or at the END of a LOOP signal shows
step 1 in the same TICK. -/
def Obligations.SignalTickCountsOrShowsAStep : Prop :=
  ∀ s : State, Good s → s.guard = false → s.sigId ≠ 0#8 →
    (1 < s.sigCnt.toNat → tick s = .next { counted s with sigCnt := s.sigCnt - 1#16 }) ∧
    (s.sigCnt.toNat ≤ 1 →
      (s.sigIdx.toNat < sigEnd s.cfg s.sigId.toNat →
        ∃ e, sigRead s.cfg s.sigId.toNat s.sigIdx.toNat = some e ∧
          tick s = .next { afterBusWrite (e.extractLsb' 0 6) (counted s) with
            sigCnt := e.extractLsb' 16 16, sigIdx := s.sigIdx + 1#8 }) ∧
      (s.sigIdx.toNat = sigEnd s.cfg s.sigId.toNat → sigMode s.cfg s.sigId.toNat = some .loop →
        ∃ e, sigRead s.cfg s.sigId.toNat 1 = some e ∧
          tick s = .next { afterBusWrite (e.extractLsb' 0 6) (counted s) with
            sigCnt := e.extractLsb' 16 16, sigIdx := 2#8 }))

/-- R173: a step armed with duration D writes nothing more for D - 1 TICKs, whatever else holds. -/
def Obligations.SignalStepStaysForItsDuration : Prop :=
  ∀ (s : State) (k : Nat), s.guard = false → s.sigId ≠ 0#8 → k < s.sigCnt.toNat →
    tickTimes k s = .next { s with performed := s.performed + k, sigCnt := s.sigCnt - BitVec.ofNat 16 k }

/-- R174: from a LOOP signal's step 1 or its END, with a step due, as many TICKs as the sum of max(D, 1) over its steps show the steps in
order and end at END with the next step due and the signal still active: that sum is its period. -/
def Obligations.LoopSignalPlaysItsTablePeriodically : Prop :=
  ∀ s : State, Good s → s.guard = false → s.sigId ≠ 0#8 → sigMode s.cfg s.sigId.toNat = some .loop →
    s.sigCnt.toNat ≤ 1 → (s.sigIdx = 1#8 ∨ s.sigIdx.toNat = sigEnd s.cfg s.sigId.toNat) →
    ∃ (table : List SigEntry) (t : State),
      sigTable s.cfg s.sigId.toNat = some table ∧
      tickTimes
        (((table.take (sigEnd s.cfg s.sigId.toNat)).drop 1).map (fun e => max 1 (e.extractLsb' 16 16).toNat)).sum s =
          .next t ∧
      t.writes.map Prod.snd = s.writes.map Prod.snd ++
        ((table.take (sigEnd s.cfg s.sigId.toNat)).drop 1).map (fun e => e.extractLsb' 0 6) ∧
      Good t ∧ t.guard = false ∧ t.sigId = s.sigId ∧ t.sigCnt.toNat ≤ 1 ∧
      t.sigIdx.toNat = sigEnd s.cfg s.sigId.toNat ∧
      t.chaseIdx = s.chaseIdx ∧ t.chaseCnt = s.chaseCnt ∧ t.offDone = s.offDone ∧ t.cfg = s.cfg

/-- R175, R176: the TICK that meets the END of a ONESHOT signal ends it, resumes, and is the resumed state's first TICK: it makes the one
write that state calls for, or none. -/
def Obligations.OneshotEndHandsOverInTheSameTick : Prop :=
  ∀ s : State, Good s → s.guard = false → s.sigId ≠ 0#8 → s.sigCnt.toNat ≤ 1 →
    s.sigIdx.toNat = sigEnd s.cfg s.sigId.toNat → sigMode s.cfg s.sigId.toNat = some .oneshot →
    let u : State := { counted s with sigId := 0#8, chaseIdx := 0#8, chaseCnt := 0#8, offDone := false }
    (s.held = true →
      tick s = .next (if s.lastValid = true ∧ s.lastBus = s.heldVal then u else afterBusWrite s.heldVal u)) ∧
    (s.held = false → s.chaseOn = false → tick s = .next { afterBusWrite 0#6 u with offDone := true }) ∧
    (s.held = false → s.chaseOn = true → s.stopped = true → tick s = .next u) ∧
    (s.held = false → s.chaseOn = true → s.stopped = false →
      ∃ e, chaseRead s.cfg s.seqNum.toNat 0 = some e ∧
        tick s = .next { afterBusWrite (e.extractLsb' 0 6) u with chaseIdx := 1#8, chaseCnt := s.speed })

/-- R143, R173: SIGNAL i pre-empts whatever governed, and the first performed TICK after it shows step 1 of signal i; clearing the
signal gives the bus back to the state that HELD, ON and STOPPED name. -/
def Obligations.SignalPreemptsAtTheNextTick : Prop :=
  (∀ (s u : State) (i : Byte), Good s → s.guard = false → i ≠ 0#8 → i.toNat ≤ s.cfg.nsig →
    exec (.signal i) s = .next u →
    governing u = .special ∧
      ∃ e, sigRead s.cfg i.toNat 1 = some e ∧
        tick u = .next { afterBusWrite (e.extractLsb' 0 6) (counted u) with
          sigCnt := e.extractLsb' 16 16, sigIdx := 2#8 }) ∧
  (∀ s u : State, exec (.signal 0#8) s = .next u →
    governing u =
      (if s.held = true then .manual
       else if s.chaseOn = false then .chaseOff
       else if s.stopped = true then .chaseStopped
       else .chaseRun))

/-- R270: a SETPAT or CLRPAT under a special signal changes nothing that a TICK shows while the signal goes on. -/
def Obligations.HeldPatternWaitsForTheSignal : Prop :=
  ∀ (i : Instr) (s u t : State), ((∃ p, i = .setpat p) ∨ i = .clrpat) → s.guard = false → s.sigId ≠ 0#8 →
    exec i s = .next u → tick s = .next t → t.sigId ≠ 0#8 →
    ∃ x, tick u = .next x ∧ x.writes = t.writes ∧ x.pinLog = t.pinLog ∧ x.srOut = t.srOut ∧
      x.sigId = t.sigId ∧ x.sigIdx = t.sigIdx ∧ x.sigCnt = t.sigCnt

/-- R182: a TICK performs at most one BusWrite. -/
def Obligations.AtMostOneBusWritePerTick : Prop :=
  ∀ s t : State, tick s = .next t →
    (t.writes = s.writes ∧ t.pinLog = s.pinLog) ∨
    (∃ v, t.writes = s.writes ++ [(s.performed + 1, v)] ∧ t.pinLog = s.pinLog ++ busEvents s.cfg.wBus v)

/-- R39, with the handover of R38 and R175 excepted (log 14): a TICK leaves the counters of the states that do not govern. -/
def Obligations.OtherStatesCountersHold : Prop :=
  ∀ s t : State, tick s = .next t →
    (governing s ≠ .special → t.sigIdx = s.sigIdx ∧ t.sigCnt = s.sigCnt ∧ t.sigId = s.sigId) ∧
    (governing s = .manual ∨ governing s = .chaseOff ∨ governing s = .chaseStopped →
      t.chaseIdx = s.chaseIdx ∧ t.chaseCnt = s.chaseCnt) ∧
    (governing s = .special → t.sigId ≠ 0#8 → t.chaseIdx = s.chaseIdx ∧ t.chaseCnt = s.chaseCnt)

/-! ## Reset (R43, R44, R260 to R263) -/

/-- R43 (with R44, R260, R263): the reset step gives every register of the block its reset value, touches neither the configuration nor
SR (R44, R260), and leaves FG outside any command, wherever in a command it was (R263 as log 10 reads it, DEDUCED). -/
def Obligations.ResetSetsEveryRegister : Prop :=
  ∀ (s : State) (rest : List Agent), s.cfg.wellFormed = true → s.sched = .rst :: rest →
    ∃ t, step s = .next t ∧
      t.guard = false ∧ t.sigId = 0#8 ∧ t.sigIdx = 0#8 ∧ t.sigCnt = 0#16 ∧ t.held = false ∧ t.heldVal = 0#6 ∧
      t.chaseOn = false ∧ t.offDone = false ∧ t.stopped = false ∧ t.seqNum = 0#8 ∧ t.chaseIdx = 0#8 ∧
      t.chaseCnt = 0#8 ∧ t.speed = 2#8 ∧ t.lastValid = false ∧ t.lastBus = 0#6 ∧
      t.clk = false ∧ t.dat = false ∧ t.lat = false ∧
      t.cfg = s.cfg ∧ t.srShift = s.srShift ∧ t.srOut = s.srOut ∧ t.phase = .idle

/-- R262: from reset with no command, the first TICK writes 0x00 and no later TICK writes, for every configuration and whatever SR
held; where a command comes before the first TICK, that TICK follows the new state. -/
def Obligations.FirstTickAfterResetFollowsTheState : Prop :=
  ∀ (c : Config) (a b : List Bool), c.wellFormed = true → a.length = c.wBus → b.length = c.wBus →
    (∀ k : Nat, ∃ t, tickTimes (k + 1) (State.initial c a b) = .next t ∧ t.writes = [(1, 0#6)] ∧
      t.srOut = List.replicate c.wBus false ∧ t.performed = k + 1 ∧ t.offDone = true) ∧
    (∀ (i : Byte) (u : State), i ≠ 0#8 → i.toNat ≤ c.nsig → exec (.signal i) (State.initial c a b) = .next u →
      ∃ e t, sigRead c i.toNat 1 = some e ∧ tick u = .next t ∧ t.writes = [(1, e.extractLsb' 0 6)]) ∧
    (∀ (p : Pattern) (u : State), exec (.setpat p) (State.initial c a b) = .next u →
      ∃ t, tick u = .next t ∧ t.writes = [(1, p)]) ∧
    (∀ u : State, exec .turnOn (State.initial c a b) = .next u →
      ∃ e t, chaseRead c 0 0 = some e ∧ tick u = .next t ∧ t.writes = [(1, e.extractLsb' 0 6)])

/-! ## The whole machine -/

/-- A good state, R37 and the rules that feed it, stays good at every step (every clause of R37 but CHASE_CNT ≤ SPEED, log 13). -/
def Obligations.EveryStepKeepsStatesGood : Prop :=
  ∀ s t : State, Good s → step s = .next t → Good t

/-- From every good state the machine takes a step: no fault, no refusal, no wait (R183, R230). Where FG is named by the schedule with
nothing to issue, its step is the model's choice (log 5). -/
def Obligations.GoodStatesAlwaysStep : Prop :=
  ∀ s : State, Good s → ∃ t, step s = .next t

/-- The state after reset is good, for every well-formed configuration and whatever SR holds. -/
def Obligations.ResetStateIsGood : Prop :=
  (∀ (c : Config) (a b : List Bool), c.wellFormed = true → a.length = c.wBus → b.length = c.wBus →
    Good (State.initial c a b)) ∧ Good State.reset

/-- R37's last clause, CHASE_CNT ≤ SPEED, as an invariant: expected to FAIL, since SETSPEED stores a smaller SPEED and leaves CHASE_CNT
(R132, R269; log 13). -/
def Obligations.ChaseCountStaysWithinSpeed : Prop :=
  ∀ s t : State, Good s → s.chaseCnt.toNat ≤ s.speed.toNat → step s = .next t → t.chaseCnt.toNat ≤ t.speed.toNat

/-- R184: the two forms of the observation say the same: the pin events are those of the recorded BusWrites, in order. -/
def Obligations.PinEventsAreTheRecordedWrites : Prop :=
  ∀ s t : State, LogsAgree s → step s = .next t → LogsAgree t

/-- R41: the writers of each register. A step other than reset that changes a register is one of that register's writers. -/
def Obligations.RegistersHaveOnlyTheirWriters : Prop :=
  ∀ s t : State, step s = .next t → nextAgent s ≠ .rst →
    (t.guard ≠ s.guard → nextAgent s = .fg ∧
      ((s.phase = .idle ∧ t.guard = true) ∨ (s.phase = .applied ∧ t.guard = false))) ∧
    (t.sigId ≠ s.sigId ∨ t.sigIdx ≠ s.sigIdx ∨ t.sigCnt ≠ s.sigCnt →
      (∃ i, Applies (.signal i) s) ∨ (nextAgent s = .tmr ∧ governing s = .special)) ∧
    (t.held ≠ s.held → ((∃ p, Applies (.setpat p) s) ∧ t.held = true) ∨ (Applies .clrpat s ∧ t.held = false)) ∧
    (t.heldVal ≠ s.heldVal → Applies (.setpat t.heldVal) s) ∧
    (t.chaseOn ≠ s.chaseOn → (Applies .turnOn s ∧ t.chaseOn = true) ∨ (Applies .turnOff s ∧ t.chaseOn = false)) ∧
    (t.offDone ≠ s.offDone →
      ((Applies .turnOn s ∨ Applies .turnOff s ∨ Applies .clrpat s ∨ Applies (.signal 0#8) s) ∧ t.offDone = false) ∨
      (nextAgent s = .tmr ∧ (governing s = .chaseOff ∨ (governing s = .special ∧ t.sigId = 0#8)))) ∧
    (t.stopped ≠ s.stopped → ∃ b, Applies (.stop b) s) ∧
    (t.seqNum ≠ s.seqNum → Applies (.setseq t.seqNum) s) ∧
    (t.chaseIdx ≠ s.chaseIdx →
      (∃ n, Applies (.setseq n) s) ∨ Applies (.signal 0#8) s ∨
      (nextAgent s = .tmr ∧ (governing s = .chaseRun ∨ (governing s = .special ∧ t.sigId = 0#8)))) ∧
    (t.chaseCnt ≠ s.chaseCnt →
      (∃ n, Applies (.setseq n) s) ∨ Applies .turnOn s ∨ Applies .clrpat s ∨ Applies (.signal 0#8) s ∨
      (nextAgent s = .tmr ∧ (governing s = .chaseRun ∨ (governing s = .special ∧ t.sigId = 0#8)))) ∧
    (t.speed ≠ s.speed → ∃ x, Applies (.setspeed x) s) ∧
    (t.lastValid ≠ s.lastValid ∨ t.lastBus ≠ s.lastBus ∨ t.clk ≠ s.clk ∨ t.dat ≠ s.dat ∨ t.lat ≠ s.lat →
      nextAgent s = .tmr ∧ ∃ v, t.writes = s.writes ++ [(s.performed + 1, v)])

/-- R71: no step writes the tables or any other part of the configuration. -/
def Obligations.TablesNeverChange : Prop :=
  ∀ s t : State, step s = .next t →
    t.cfg = s.cfg ∧ (∀ n i, chaseRead t.cfg n i = chaseRead s.cfg n i) ∧ (∀ n i, sigRead t.cfg n i = sigRead s.cfg n i)

/-- R232, U1: no step is made from an ill-formed configuration (that the step itself refuses is the model's reading, log 6), and the
well-formed ones are exactly these: NCHASE, NSIG, W_BUS and the table lengths in their ranges (R7, U1; the ranges of the lengths and
the range of NSIG by log 6 and log 17), every chase table as R55 says and every signal table as R60 says. -/
def Obligations.IllFormedConfigurationsAreRefused : Prop :=
  (∀ s : State, s.cfg.wellFormed = false → step s = .refused .illFormedConfiguration) ∧
  ∀ c : Config, c.wellFormed = true ↔
    (1 ≤ c.nchase ∧ c.nchase ≤ 256 ∧ c.chaseRom.length = c.nchase) ∧
    (1 ≤ c.nsig ∧ c.nsig ≤ 255 ∧ c.sigRom.length = c.nsig) ∧
    (2 ≤ c.maxChaseLen ∧ c.maxChaseLen ≤ 256) ∧ (3 ≤ c.maxSigLen ∧ c.maxSigLen ≤ 256) ∧ 6 ≤ c.wBus ∧
    (∀ n < c.nchase, ∃ t, chaseTable c n = some t ∧ t.length ≤ c.maxChaseLen ∧
      ∃ k e, 1 ≤ k ∧ k ≤ c.maxChaseLen - 1 ∧ chaseRead c n k = some e ∧ e.extractLsb' 6 2 ≠ 0#2 ∧
        ∀ i < k, ∃ d, chaseRead c n i = some d ∧ d.extractLsb' 6 2 = 0#2) ∧
    (∀ g, 1 ≤ g → g ≤ c.nsig → ∃ t, sigTable c g = some t ∧ t.length ≤ c.maxSigLen ∧
      (∃ m, sigRead c g 0 = some m ∧ (m.extractLsb' 6 2 = 1#2 ∨ m.extractLsb' 6 2 = 2#2)) ∧
      ∃ k e, 2 ≤ k ∧ k ≤ c.maxSigLen - 1 ∧ sigRead c g k = some e ∧ e.extractLsb' 6 2 = 3#2 ∧
        ∀ i, 1 ≤ i → i < k → ∃ d, sigRead c g i = some d ∧ d.extractLsb' 6 2 = 0#2)

/-- No TICK is lost while FG rests. With FG idle, nothing for it to issue and no schedule, every step is a performed TICK (that TMR moves
then is the model's choice, log 5). And in every run that meets the fairness premise of R272 and D44, if FG issues finitely many words
then from some step on every TICK strobe is performed, and if the strobes go on, so do the performed TICKs. -/
def Obligations.IdleForegroundLosesNoTick : Prop :=
  (∀ (s : State) (k : Nat), Good s → s.sched = [] → fgReady s = false →
    ∃ t, runSteps k s = .next t ∧ t.performed = s.performed + k ∧ Good t) ∧
  ∀ r : Nat → State, IsRun r → TicksNotStarved r → Finitely (IssuesWordAt r) →
    (∃ n, ∀ m, n ≤ m → StrobesAt r m → (r (m + 1)).performed = (r m).performed + 1) ∧
    (¬ Finitely (StrobesAt r) → ∀ p, ∃ n, p ≤ (r n).performed)

/-- U14: the registers that no rule reads just now never reach anything: two machines that differ only in them make steps that
differ only in them, and show the same pin events. -/
def Obligations.UnreadRegistersAreUnobservable : Prop :=
  ∀ s u t v : State, hideUnread s = hideUnread u → step s = .next t → step u = .next v →
    hideUnread t = hideUnread v ∧ t.writes = v.writes ∧ t.pinLog = v.pinLog ∧ t.srOut = v.srOut
end

