-- ==== Sys2Proof/Laws/State.lean ====
section
/-! SUPPORT. Every field of the state after every named update of it, one lemma each, true by rfl: cited by simp, so that no proof
unfolds a record update. -/

namespace Sys2Proof.Machine

/-! `setGuard` -/

@[simp] theorem setGuard_guard (s : State) : (setGuard s).guard = true := rfl
@[simp] theorem setGuard_sigId (s : State) : (setGuard s).sigId = s.sigId := rfl
@[simp] theorem setGuard_sigIdx (s : State) : (setGuard s).sigIdx = s.sigIdx := rfl
@[simp] theorem setGuard_sigCnt (s : State) : (setGuard s).sigCnt = s.sigCnt := rfl
@[simp] theorem setGuard_held (s : State) : (setGuard s).held = s.held := rfl
@[simp] theorem setGuard_heldVal (s : State) : (setGuard s).heldVal = s.heldVal := rfl
@[simp] theorem setGuard_chaseOn (s : State) : (setGuard s).chaseOn = s.chaseOn := rfl
@[simp] theorem setGuard_offDone (s : State) : (setGuard s).offDone = s.offDone := rfl
@[simp] theorem setGuard_stopped (s : State) : (setGuard s).stopped = s.stopped := rfl
@[simp] theorem setGuard_seqNum (s : State) : (setGuard s).seqNum = s.seqNum := rfl
@[simp] theorem setGuard_chaseIdx (s : State) : (setGuard s).chaseIdx = s.chaseIdx := rfl
@[simp] theorem setGuard_chaseCnt (s : State) : (setGuard s).chaseCnt = s.chaseCnt := rfl
@[simp] theorem setGuard_speed (s : State) : (setGuard s).speed = s.speed := rfl
@[simp] theorem setGuard_lastValid (s : State) : (setGuard s).lastValid = s.lastValid := rfl
@[simp] theorem setGuard_lastBus (s : State) : (setGuard s).lastBus = s.lastBus := rfl
@[simp] theorem setGuard_clk (s : State) : (setGuard s).clk = s.clk := rfl
@[simp] theorem setGuard_dat (s : State) : (setGuard s).dat = s.dat := rfl
@[simp] theorem setGuard_lat (s : State) : (setGuard s).lat = s.lat := rfl
@[simp] theorem setGuard_srShift (s : State) : (setGuard s).srShift = s.srShift := rfl
@[simp] theorem setGuard_srOut (s : State) : (setGuard s).srOut = s.srOut := rfl
@[simp] theorem setGuard_cfg (s : State) : (setGuard s).cfg = s.cfg := rfl
@[simp] theorem setGuard_phase (s : State) : (setGuard s).phase = s.phase := rfl
@[simp] theorem setGuard_expansion (s : State) : (setGuard s).expansion = s.expansion := rfl
@[simp] theorem setGuard_queue (s : State) : (setGuard s).queue = s.queue := rfl
@[simp] theorem setGuard_sched (s : State) : (setGuard s).sched = s.sched := rfl
@[simp] theorem setGuard_turn (s : State) : (setGuard s).turn = s.turn := rfl
@[simp] theorem setGuard_performed (s : State) : (setGuard s).performed = s.performed := rfl
@[simp] theorem setGuard_writes (s : State) : (setGuard s).writes = s.writes := rfl
@[simp] theorem setGuard_pinLog (s : State) : (setGuard s).pinLog = s.pinLog := rfl

/-! `clearGuard` -/

@[simp] theorem clearGuard_guard (s : State) : (clearGuard s).guard = false := rfl
@[simp] theorem clearGuard_sigId (s : State) : (clearGuard s).sigId = s.sigId := rfl
@[simp] theorem clearGuard_sigIdx (s : State) : (clearGuard s).sigIdx = s.sigIdx := rfl
@[simp] theorem clearGuard_sigCnt (s : State) : (clearGuard s).sigCnt = s.sigCnt := rfl
@[simp] theorem clearGuard_held (s : State) : (clearGuard s).held = s.held := rfl
@[simp] theorem clearGuard_heldVal (s : State) : (clearGuard s).heldVal = s.heldVal := rfl
@[simp] theorem clearGuard_chaseOn (s : State) : (clearGuard s).chaseOn = s.chaseOn := rfl
@[simp] theorem clearGuard_offDone (s : State) : (clearGuard s).offDone = s.offDone := rfl
@[simp] theorem clearGuard_stopped (s : State) : (clearGuard s).stopped = s.stopped := rfl
@[simp] theorem clearGuard_seqNum (s : State) : (clearGuard s).seqNum = s.seqNum := rfl
@[simp] theorem clearGuard_chaseIdx (s : State) : (clearGuard s).chaseIdx = s.chaseIdx := rfl
@[simp] theorem clearGuard_chaseCnt (s : State) : (clearGuard s).chaseCnt = s.chaseCnt := rfl
@[simp] theorem clearGuard_speed (s : State) : (clearGuard s).speed = s.speed := rfl
@[simp] theorem clearGuard_lastValid (s : State) : (clearGuard s).lastValid = s.lastValid := rfl
@[simp] theorem clearGuard_lastBus (s : State) : (clearGuard s).lastBus = s.lastBus := rfl
@[simp] theorem clearGuard_clk (s : State) : (clearGuard s).clk = s.clk := rfl
@[simp] theorem clearGuard_dat (s : State) : (clearGuard s).dat = s.dat := rfl
@[simp] theorem clearGuard_lat (s : State) : (clearGuard s).lat = s.lat := rfl
@[simp] theorem clearGuard_srShift (s : State) : (clearGuard s).srShift = s.srShift := rfl
@[simp] theorem clearGuard_srOut (s : State) : (clearGuard s).srOut = s.srOut := rfl
@[simp] theorem clearGuard_cfg (s : State) : (clearGuard s).cfg = s.cfg := rfl
@[simp] theorem clearGuard_phase (s : State) : (clearGuard s).phase = s.phase := rfl
@[simp] theorem clearGuard_expansion (s : State) : (clearGuard s).expansion = s.expansion := rfl
@[simp] theorem clearGuard_queue (s : State) : (clearGuard s).queue = s.queue := rfl
@[simp] theorem clearGuard_sched (s : State) : (clearGuard s).sched = s.sched := rfl
@[simp] theorem clearGuard_turn (s : State) : (clearGuard s).turn = s.turn := rfl
@[simp] theorem clearGuard_performed (s : State) : (clearGuard s).performed = s.performed := rfl
@[simp] theorem clearGuard_writes (s : State) : (clearGuard s).writes = s.writes := rfl
@[simp] theorem clearGuard_pinLog (s : State) : (clearGuard s).pinLog = s.pinLog := rfl

/-! `counted` -/

@[simp] theorem counted_guard (s : State) : (counted s).guard = s.guard := rfl
@[simp] theorem counted_sigId (s : State) : (counted s).sigId = s.sigId := rfl
@[simp] theorem counted_sigIdx (s : State) : (counted s).sigIdx = s.sigIdx := rfl
@[simp] theorem counted_sigCnt (s : State) : (counted s).sigCnt = s.sigCnt := rfl
@[simp] theorem counted_held (s : State) : (counted s).held = s.held := rfl
@[simp] theorem counted_heldVal (s : State) : (counted s).heldVal = s.heldVal := rfl
@[simp] theorem counted_chaseOn (s : State) : (counted s).chaseOn = s.chaseOn := rfl
@[simp] theorem counted_offDone (s : State) : (counted s).offDone = s.offDone := rfl
@[simp] theorem counted_stopped (s : State) : (counted s).stopped = s.stopped := rfl
@[simp] theorem counted_seqNum (s : State) : (counted s).seqNum = s.seqNum := rfl
@[simp] theorem counted_chaseIdx (s : State) : (counted s).chaseIdx = s.chaseIdx := rfl
@[simp] theorem counted_chaseCnt (s : State) : (counted s).chaseCnt = s.chaseCnt := rfl
@[simp] theorem counted_speed (s : State) : (counted s).speed = s.speed := rfl
@[simp] theorem counted_lastValid (s : State) : (counted s).lastValid = s.lastValid := rfl
@[simp] theorem counted_lastBus (s : State) : (counted s).lastBus = s.lastBus := rfl
@[simp] theorem counted_clk (s : State) : (counted s).clk = s.clk := rfl
@[simp] theorem counted_dat (s : State) : (counted s).dat = s.dat := rfl
@[simp] theorem counted_lat (s : State) : (counted s).lat = s.lat := rfl
@[simp] theorem counted_srShift (s : State) : (counted s).srShift = s.srShift := rfl
@[simp] theorem counted_srOut (s : State) : (counted s).srOut = s.srOut := rfl
@[simp] theorem counted_cfg (s : State) : (counted s).cfg = s.cfg := rfl
@[simp] theorem counted_phase (s : State) : (counted s).phase = s.phase := rfl
@[simp] theorem counted_expansion (s : State) : (counted s).expansion = s.expansion := rfl
@[simp] theorem counted_queue (s : State) : (counted s).queue = s.queue := rfl
@[simp] theorem counted_sched (s : State) : (counted s).sched = s.sched := rfl
@[simp] theorem counted_turn (s : State) : (counted s).turn = s.turn := rfl
@[simp] theorem counted_performed (s : State) : (counted s).performed = s.performed + 1 := rfl
@[simp] theorem counted_writes (s : State) : (counted s).writes = s.writes := rfl
@[simp] theorem counted_pinLog (s : State) : (counted s).pinLog = s.pinLog := rfl

/-! `resume` -/

@[simp] theorem resume_guard (s : State) : (resume s).guard = s.guard := rfl
@[simp] theorem resume_sigId (s : State) : (resume s).sigId = s.sigId := rfl
@[simp] theorem resume_sigIdx (s : State) : (resume s).sigIdx = s.sigIdx := rfl
@[simp] theorem resume_sigCnt (s : State) : (resume s).sigCnt = s.sigCnt := rfl
@[simp] theorem resume_held (s : State) : (resume s).held = s.held := rfl
@[simp] theorem resume_heldVal (s : State) : (resume s).heldVal = s.heldVal := rfl
@[simp] theorem resume_chaseOn (s : State) : (resume s).chaseOn = s.chaseOn := rfl
@[simp] theorem resume_offDone (s : State) : (resume s).offDone = false := rfl
@[simp] theorem resume_stopped (s : State) : (resume s).stopped = s.stopped := rfl
@[simp] theorem resume_seqNum (s : State) : (resume s).seqNum = s.seqNum := rfl
@[simp] theorem resume_chaseIdx (s : State) : (resume s).chaseIdx = 0#8 := rfl
@[simp] theorem resume_chaseCnt (s : State) : (resume s).chaseCnt = 0#8 := rfl
@[simp] theorem resume_speed (s : State) : (resume s).speed = s.speed := rfl
@[simp] theorem resume_lastValid (s : State) : (resume s).lastValid = s.lastValid := rfl
@[simp] theorem resume_lastBus (s : State) : (resume s).lastBus = s.lastBus := rfl
@[simp] theorem resume_clk (s : State) : (resume s).clk = s.clk := rfl
@[simp] theorem resume_dat (s : State) : (resume s).dat = s.dat := rfl
@[simp] theorem resume_lat (s : State) : (resume s).lat = s.lat := rfl
@[simp] theorem resume_srShift (s : State) : (resume s).srShift = s.srShift := rfl
@[simp] theorem resume_srOut (s : State) : (resume s).srOut = s.srOut := rfl
@[simp] theorem resume_cfg (s : State) : (resume s).cfg = s.cfg := rfl
@[simp] theorem resume_phase (s : State) : (resume s).phase = s.phase := rfl
@[simp] theorem resume_expansion (s : State) : (resume s).expansion = s.expansion := rfl
@[simp] theorem resume_queue (s : State) : (resume s).queue = s.queue := rfl
@[simp] theorem resume_sched (s : State) : (resume s).sched = s.sched := rfl
@[simp] theorem resume_turn (s : State) : (resume s).turn = s.turn := rfl
@[simp] theorem resume_performed (s : State) : (resume s).performed = s.performed := rfl
@[simp] theorem resume_writes (s : State) : (resume s).writes = s.writes := rfl
@[simp] theorem resume_pinLog (s : State) : (resume s).pinLog = s.pinLog := rfl

/-! `resetBlock` -/

@[simp] theorem resetBlock_guard (s : State) : (resetBlock s).guard = false := rfl
@[simp] theorem resetBlock_sigId (s : State) : (resetBlock s).sigId = 0#8 := rfl
@[simp] theorem resetBlock_sigIdx (s : State) : (resetBlock s).sigIdx = 0#8 := rfl
@[simp] theorem resetBlock_sigCnt (s : State) : (resetBlock s).sigCnt = 0#16 := rfl
@[simp] theorem resetBlock_held (s : State) : (resetBlock s).held = false := rfl
@[simp] theorem resetBlock_heldVal (s : State) : (resetBlock s).heldVal = 0#6 := rfl
@[simp] theorem resetBlock_chaseOn (s : State) : (resetBlock s).chaseOn = false := rfl
@[simp] theorem resetBlock_offDone (s : State) : (resetBlock s).offDone = false := rfl
@[simp] theorem resetBlock_stopped (s : State) : (resetBlock s).stopped = false := rfl
@[simp] theorem resetBlock_seqNum (s : State) : (resetBlock s).seqNum = 0#8 := rfl
@[simp] theorem resetBlock_chaseIdx (s : State) : (resetBlock s).chaseIdx = 0#8 := rfl
@[simp] theorem resetBlock_chaseCnt (s : State) : (resetBlock s).chaseCnt = 0#8 := rfl
@[simp] theorem resetBlock_speed (s : State) : (resetBlock s).speed = 2#8 := rfl
@[simp] theorem resetBlock_lastValid (s : State) : (resetBlock s).lastValid = false := rfl
@[simp] theorem resetBlock_lastBus (s : State) : (resetBlock s).lastBus = 0#6 := rfl
@[simp] theorem resetBlock_clk (s : State) : (resetBlock s).clk = false := rfl
@[simp] theorem resetBlock_dat (s : State) : (resetBlock s).dat = false := rfl
@[simp] theorem resetBlock_lat (s : State) : (resetBlock s).lat = false := rfl
@[simp] theorem resetBlock_srShift (s : State) : (resetBlock s).srShift = s.srShift := rfl
@[simp] theorem resetBlock_srOut (s : State) : (resetBlock s).srOut = s.srOut := rfl
@[simp] theorem resetBlock_cfg (s : State) : (resetBlock s).cfg = s.cfg := rfl
@[simp] theorem resetBlock_phase (s : State) : (resetBlock s).phase = .idle := rfl
@[simp] theorem resetBlock_expansion (s : State) : (resetBlock s).expansion = [] := rfl
@[simp] theorem resetBlock_queue (s : State) : (resetBlock s).queue = s.queue := rfl
@[simp] theorem resetBlock_sched (s : State) : (resetBlock s).sched = s.sched := rfl
@[simp] theorem resetBlock_turn (s : State) : (resetBlock s).turn = s.turn := rfl
@[simp] theorem resetBlock_performed (s : State) : (resetBlock s).performed = s.performed := rfl
@[simp] theorem resetBlock_writes (s : State) : (resetBlock s).writes = s.writes := rfl
@[simp] theorem resetBlock_pinLog (s : State) : (resetBlock s).pinLog = s.pinLog := rfl

/-! `beginCommand` -/

@[simp] theorem beginCommand_guard (w : Word) (s : State) : (beginCommand w s).guard = true := rfl
@[simp] theorem beginCommand_sigId (w : Word) (s : State) : (beginCommand w s).sigId = s.sigId := rfl
@[simp] theorem beginCommand_sigIdx (w : Word) (s : State) : (beginCommand w s).sigIdx = s.sigIdx := rfl
@[simp] theorem beginCommand_sigCnt (w : Word) (s : State) : (beginCommand w s).sigCnt = s.sigCnt := rfl
@[simp] theorem beginCommand_held (w : Word) (s : State) : (beginCommand w s).held = s.held := rfl
@[simp] theorem beginCommand_heldVal (w : Word) (s : State) : (beginCommand w s).heldVal = s.heldVal := rfl
@[simp] theorem beginCommand_chaseOn (w : Word) (s : State) : (beginCommand w s).chaseOn = s.chaseOn := rfl
@[simp] theorem beginCommand_offDone (w : Word) (s : State) : (beginCommand w s).offDone = s.offDone := rfl
@[simp] theorem beginCommand_stopped (w : Word) (s : State) : (beginCommand w s).stopped = s.stopped := rfl
@[simp] theorem beginCommand_seqNum (w : Word) (s : State) : (beginCommand w s).seqNum = s.seqNum := rfl
@[simp] theorem beginCommand_chaseIdx (w : Word) (s : State) : (beginCommand w s).chaseIdx = s.chaseIdx := rfl
@[simp] theorem beginCommand_chaseCnt (w : Word) (s : State) : (beginCommand w s).chaseCnt = s.chaseCnt := rfl
@[simp] theorem beginCommand_speed (w : Word) (s : State) : (beginCommand w s).speed = s.speed := rfl
@[simp] theorem beginCommand_lastValid (w : Word) (s : State) : (beginCommand w s).lastValid = s.lastValid := rfl
@[simp] theorem beginCommand_lastBus (w : Word) (s : State) : (beginCommand w s).lastBus = s.lastBus := rfl
@[simp] theorem beginCommand_clk (w : Word) (s : State) : (beginCommand w s).clk = s.clk := rfl
@[simp] theorem beginCommand_dat (w : Word) (s : State) : (beginCommand w s).dat = s.dat := rfl
@[simp] theorem beginCommand_lat (w : Word) (s : State) : (beginCommand w s).lat = s.lat := rfl
@[simp] theorem beginCommand_srShift (w : Word) (s : State) : (beginCommand w s).srShift = s.srShift := rfl
@[simp] theorem beginCommand_srOut (w : Word) (s : State) : (beginCommand w s).srOut = s.srOut := rfl
@[simp] theorem beginCommand_cfg (w : Word) (s : State) : (beginCommand w s).cfg = s.cfg := rfl
@[simp] theorem beginCommand_phase (w : Word) (s : State) : (beginCommand w s).phase = .begun w := rfl
@[simp] theorem beginCommand_expansion (w : Word) (s : State) : (beginCommand w s).expansion = s.expansion := rfl
@[simp] theorem beginCommand_queue (w : Word) (s : State) : (beginCommand w s).queue = s.queue := rfl
@[simp] theorem beginCommand_sched (w : Word) (s : State) : (beginCommand w s).sched = s.sched := rfl
@[simp] theorem beginCommand_turn (w : Word) (s : State) : (beginCommand w s).turn = s.turn := rfl
@[simp] theorem beginCommand_performed (w : Word) (s : State) : (beginCommand w s).performed = s.performed := rfl
@[simp] theorem beginCommand_writes (w : Word) (s : State) : (beginCommand w s).writes = s.writes := rfl
@[simp] theorem beginCommand_pinLog (w : Word) (s : State) : (beginCommand w s).pinLog = s.pinLog := rfl

/-! `endCommand` -/

@[simp] theorem endCommand_guard (s : State) : (endCommand s).guard = false := rfl
@[simp] theorem endCommand_sigId (s : State) : (endCommand s).sigId = s.sigId := rfl
@[simp] theorem endCommand_sigIdx (s : State) : (endCommand s).sigIdx = s.sigIdx := rfl
@[simp] theorem endCommand_sigCnt (s : State) : (endCommand s).sigCnt = s.sigCnt := rfl
@[simp] theorem endCommand_held (s : State) : (endCommand s).held = s.held := rfl
@[simp] theorem endCommand_heldVal (s : State) : (endCommand s).heldVal = s.heldVal := rfl
@[simp] theorem endCommand_chaseOn (s : State) : (endCommand s).chaseOn = s.chaseOn := rfl
@[simp] theorem endCommand_offDone (s : State) : (endCommand s).offDone = s.offDone := rfl
@[simp] theorem endCommand_stopped (s : State) : (endCommand s).stopped = s.stopped := rfl
@[simp] theorem endCommand_seqNum (s : State) : (endCommand s).seqNum = s.seqNum := rfl
@[simp] theorem endCommand_chaseIdx (s : State) : (endCommand s).chaseIdx = s.chaseIdx := rfl
@[simp] theorem endCommand_chaseCnt (s : State) : (endCommand s).chaseCnt = s.chaseCnt := rfl
@[simp] theorem endCommand_speed (s : State) : (endCommand s).speed = s.speed := rfl
@[simp] theorem endCommand_lastValid (s : State) : (endCommand s).lastValid = s.lastValid := rfl
@[simp] theorem endCommand_lastBus (s : State) : (endCommand s).lastBus = s.lastBus := rfl
@[simp] theorem endCommand_clk (s : State) : (endCommand s).clk = s.clk := rfl
@[simp] theorem endCommand_dat (s : State) : (endCommand s).dat = s.dat := rfl
@[simp] theorem endCommand_lat (s : State) : (endCommand s).lat = s.lat := rfl
@[simp] theorem endCommand_srShift (s : State) : (endCommand s).srShift = s.srShift := rfl
@[simp] theorem endCommand_srOut (s : State) : (endCommand s).srOut = s.srOut := rfl
@[simp] theorem endCommand_cfg (s : State) : (endCommand s).cfg = s.cfg := rfl
@[simp] theorem endCommand_phase (s : State) : (endCommand s).phase = .idle := rfl
@[simp] theorem endCommand_expansion (s : State) : (endCommand s).expansion = s.expansion := rfl
@[simp] theorem endCommand_queue (s : State) : (endCommand s).queue = s.queue := rfl
@[simp] theorem endCommand_sched (s : State) : (endCommand s).sched = s.sched := rfl
@[simp] theorem endCommand_turn (s : State) : (endCommand s).turn = s.turn := rfl
@[simp] theorem endCommand_performed (s : State) : (endCommand s).performed = s.performed := rfl
@[simp] theorem endCommand_writes (s : State) : (endCommand s).writes = s.writes := rfl
@[simp] theorem endCommand_pinLog (s : State) : (endCommand s).pinLog = s.pinLog := rfl

/-! `portHolds` -/

@[simp] theorem portHolds_guard (w : Word) (s : State) : (portHolds w s).guard = true := rfl
@[simp] theorem portHolds_sigId (w : Word) (s : State) : (portHolds w s).sigId = s.sigId := rfl
@[simp] theorem portHolds_sigIdx (w : Word) (s : State) : (portHolds w s).sigIdx = s.sigIdx := rfl
@[simp] theorem portHolds_sigCnt (w : Word) (s : State) : (portHolds w s).sigCnt = s.sigCnt := rfl
@[simp] theorem portHolds_held (w : Word) (s : State) : (portHolds w s).held = s.held := rfl
@[simp] theorem portHolds_heldVal (w : Word) (s : State) : (portHolds w s).heldVal = s.heldVal := rfl
@[simp] theorem portHolds_chaseOn (w : Word) (s : State) : (portHolds w s).chaseOn = s.chaseOn := rfl
@[simp] theorem portHolds_offDone (w : Word) (s : State) : (portHolds w s).offDone = s.offDone := rfl
@[simp] theorem portHolds_stopped (w : Word) (s : State) : (portHolds w s).stopped = s.stopped := rfl
@[simp] theorem portHolds_seqNum (w : Word) (s : State) : (portHolds w s).seqNum = s.seqNum := rfl
@[simp] theorem portHolds_chaseIdx (w : Word) (s : State) : (portHolds w s).chaseIdx = s.chaseIdx := rfl
@[simp] theorem portHolds_chaseCnt (w : Word) (s : State) : (portHolds w s).chaseCnt = s.chaseCnt := rfl
@[simp] theorem portHolds_speed (w : Word) (s : State) : (portHolds w s).speed = s.speed := rfl
@[simp] theorem portHolds_lastValid (w : Word) (s : State) : (portHolds w s).lastValid = s.lastValid := rfl
@[simp] theorem portHolds_lastBus (w : Word) (s : State) : (portHolds w s).lastBus = s.lastBus := rfl
@[simp] theorem portHolds_clk (w : Word) (s : State) : (portHolds w s).clk = s.clk := rfl
@[simp] theorem portHolds_dat (w : Word) (s : State) : (portHolds w s).dat = s.dat := rfl
@[simp] theorem portHolds_lat (w : Word) (s : State) : (portHolds w s).lat = s.lat := rfl
@[simp] theorem portHolds_srShift (w : Word) (s : State) : (portHolds w s).srShift = s.srShift := rfl
@[simp] theorem portHolds_srOut (w : Word) (s : State) : (portHolds w s).srOut = s.srOut := rfl
@[simp] theorem portHolds_cfg (w : Word) (s : State) : (portHolds w s).cfg = s.cfg := rfl
@[simp] theorem portHolds_phase (w : Word) (s : State) : (portHolds w s).phase = .begun w := rfl
@[simp] theorem portHolds_expansion (w : Word) (s : State) : (portHolds w s).expansion = s.expansion := rfl
@[simp] theorem portHolds_queue (w : Word) (s : State) : (portHolds w s).queue = s.queue := rfl
@[simp] theorem portHolds_sched (w : Word) (s : State) : (portHolds w s).sched = .fg :: s.sched := rfl
@[simp] theorem portHolds_turn (w : Word) (s : State) : (portHolds w s).turn = s.turn := rfl
@[simp] theorem portHolds_performed (w : Word) (s : State) : (portHolds w s).performed = s.performed := rfl
@[simp] theorem portHolds_writes (w : Word) (s : State) : (portHolds w s).writes = s.writes := rfl
@[simp] theorem portHolds_pinLog (w : Word) (s : State) : (portHolds w s).pinLog = s.pinLog := rfl

/-! `drivePin` -/

@[simp] theorem drivePin_guard (e : PinEvent) (s : State) : (drivePin e s).guard = s.guard := rfl
@[simp] theorem drivePin_sigId (e : PinEvent) (s : State) : (drivePin e s).sigId = s.sigId := rfl
@[simp] theorem drivePin_sigIdx (e : PinEvent) (s : State) : (drivePin e s).sigIdx = s.sigIdx := rfl
@[simp] theorem drivePin_sigCnt (e : PinEvent) (s : State) : (drivePin e s).sigCnt = s.sigCnt := rfl
@[simp] theorem drivePin_held (e : PinEvent) (s : State) : (drivePin e s).held = s.held := rfl
@[simp] theorem drivePin_heldVal (e : PinEvent) (s : State) : (drivePin e s).heldVal = s.heldVal := rfl
@[simp] theorem drivePin_chaseOn (e : PinEvent) (s : State) : (drivePin e s).chaseOn = s.chaseOn := rfl
@[simp] theorem drivePin_offDone (e : PinEvent) (s : State) : (drivePin e s).offDone = s.offDone := rfl
@[simp] theorem drivePin_stopped (e : PinEvent) (s : State) : (drivePin e s).stopped = s.stopped := rfl
@[simp] theorem drivePin_seqNum (e : PinEvent) (s : State) : (drivePin e s).seqNum = s.seqNum := rfl
@[simp] theorem drivePin_chaseIdx (e : PinEvent) (s : State) : (drivePin e s).chaseIdx = s.chaseIdx := rfl
@[simp] theorem drivePin_chaseCnt (e : PinEvent) (s : State) : (drivePin e s).chaseCnt = s.chaseCnt := rfl
@[simp] theorem drivePin_speed (e : PinEvent) (s : State) : (drivePin e s).speed = s.speed := rfl
@[simp] theorem drivePin_lastValid (e : PinEvent) (s : State) : (drivePin e s).lastValid = s.lastValid := rfl
@[simp] theorem drivePin_lastBus (e : PinEvent) (s : State) : (drivePin e s).lastBus = s.lastBus := rfl
@[simp] theorem drivePin_clk (e : PinEvent) (s : State) : (drivePin e s).clk = levelAfter .clk s.clk e := rfl
@[simp] theorem drivePin_dat (e : PinEvent) (s : State) : (drivePin e s).dat = levelAfter .dat s.dat e := rfl
@[simp] theorem drivePin_lat (e : PinEvent) (s : State) : (drivePin e s).lat = levelAfter .lat s.lat e := rfl
@[simp] theorem drivePin_srShift (e : PinEvent) (s : State) : (drivePin e s).srShift = if rises .clk s.clk e then shiftIn s.srShift s.dat else s.srShift := rfl
@[simp] theorem drivePin_srOut (e : PinEvent) (s : State) : (drivePin e s).srOut = if rises .lat s.lat e then s.srShift else s.srOut := rfl
@[simp] theorem drivePin_cfg (e : PinEvent) (s : State) : (drivePin e s).cfg = s.cfg := rfl
@[simp] theorem drivePin_phase (e : PinEvent) (s : State) : (drivePin e s).phase = s.phase := rfl
@[simp] theorem drivePin_expansion (e : PinEvent) (s : State) : (drivePin e s).expansion = s.expansion := rfl
@[simp] theorem drivePin_queue (e : PinEvent) (s : State) : (drivePin e s).queue = s.queue := rfl
@[simp] theorem drivePin_sched (e : PinEvent) (s : State) : (drivePin e s).sched = s.sched := rfl
@[simp] theorem drivePin_turn (e : PinEvent) (s : State) : (drivePin e s).turn = s.turn := rfl
@[simp] theorem drivePin_performed (e : PinEvent) (s : State) : (drivePin e s).performed = s.performed := rfl
@[simp] theorem drivePin_writes (e : PinEvent) (s : State) : (drivePin e s).writes = s.writes := rfl
@[simp] theorem drivePin_pinLog (e : PinEvent) (s : State) : (drivePin e s).pinLog = s.pinLog ++ [e] := rfl

end Sys2Proof.Machine
end

