-- ==== Sys2Proof/Laws/Ops.lean ====
section
/-! SUPPORT. For each shared operation, once, all it can do: sequencing, table reads, the pins and BusWrite. -/

namespace Sys2Proof.Machine

/-! Sequencing -/

@[simp] theorem andThen_next {α β : Type} (a : α) (f : α → Host.Outcome β Fault Refusal) :
    andThen (.next a) f = f a := rfl

@[simp] theorem andThen_fault {α β : Type} (e : Fault) (f : α → Host.Outcome β Fault Refusal) :
    andThen (.fault e) f = .fault e := rfl

@[simp] theorem andThen_refused {α β : Type} (e : Refusal) (f : α → Host.Outcome β Fault Refusal) :
    andThen (.refused e) f = .refused e := rfl

/-- A sequence answers a state exactly when its first part does and the second does from there. -/
theorem andThen_eq_next {α β : Type} {r : Host.Outcome α Fault Refusal} {f : α → Host.Outcome β Fault Refusal} {b : β} :
    andThen r f = .next b ↔ ∃ a, r = .next a ∧ f a = .next b := by
  cases r <;> simp

/-- A table read goes on exactly when the table has the entry. -/
theorem readOr_eq_next {α : Type} {e : Fault} {x : Option α} {a : α} : readOr e x = .next a ↔ x = some a := by
  cases x <;> simp [readOr]

@[simp] theorem readOr_some {α : Type} (e : Fault) (a : α) : readOr e (some a) = .next a := rfl

/-! Table reads -/

/-- What a chase read that answers an entry says about its indices. -/
theorem chaseRead_eq_some {c : Config} {n i : Nat} {e : Byte} :
    chaseRead c n i = some e ↔ ∃ t, chaseTable c n = some t ∧ t[i]? = some e := by
  simp [chaseRead, Option.bind_eq_some_iff]

/-- What a signal read that answers an entry says about its indices. -/
theorem sigRead_eq_some {c : Config} {n i : Nat} {e : SigEntry} :
    sigRead c n i = some e ↔ ∃ t, sigTable c n = some t ∧ t[i]? = some e := by
  simp [sigRead, Option.bind_eq_some_iff]

/-- There is a chase table exactly for the numbers below NCHASE that CHASE_ROM holds. -/
theorem chaseTable_eq_some {c : Config} {n : Nat} {t : List Byte} :
    chaseTable c n = some t ↔ n < c.nchase ∧ c.chaseRom[n]? = some t := by
  unfold chaseTable; split <;> simp [*]

/-- There is a signal table exactly for the ids 1..NSIG that SIG_ROM holds. -/
theorem sigTable_eq_some {c : Config} {n : Nat} {t : List SigEntry} :
    sigTable c n = some t ↔ (1 ≤ n ∧ n ≤ c.nsig) ∧ c.sigRom[n - 1]? = some t := by
  unfold sigTable; split <;> simp [*]

/-! The pins -/

@[simp] theorem drivePins_nil (s : State) : drivePins [] s = s := rfl

@[simp] theorem drivePins_cons (e : PinEvent) (es : List PinEvent) (s : State) :
    drivePins (e :: es) s = drivePins es (drivePin e s) := rfl

theorem drivePins_append (es fs : List PinEvent) (s : State) :
    drivePins (es ++ fs) s = drivePins fs (drivePins es s) := by
  simp [drivePins, List.foldl_append]

/-- Pin events change the pins, SR and the record of pin events, and nothing else. -/
theorem drivePins_eq (es : List PinEvent) (s : State) :
    drivePins es s =
      { s with
        clk := (drivePins es s).clk
        dat := (drivePins es s).dat
        lat := (drivePins es s).lat
        srShift := (drivePins es s).srShift
        srOut := (drivePins es s).srOut
        pinLog := (drivePins es s).pinLog } := by
  induction es generalizing s with
  | nil => rfl
  | cons e es ih => rw [drivePins_cons, ih]; rfl

@[simp] theorem drivePins_pinLog (es : List PinEvent) (s : State) : (drivePins es s).pinLog = s.pinLog ++ es := by
  induction es generalizing s with
  | nil => simp
  | cons e es ih => simp [ih]

@[simp] theorem shiftIn_length (r : List Bool) (d : Bool) : (shiftIn r d).length = r.length := by
  simp [shiftIn]

/-- Pin events never change the width of the shift stage. -/
theorem drivePins_srShift_length (es : List PinEvent) (s : State) :
    (drivePins es s).srShift.length = s.srShift.length := by
  induction es generalizing s with
  | nil => rfl
  | cons e es ih => rw [drivePins_cons, ih, drivePin_srShift]; split <;> simp

@[simp] theorem busBits_length (w : Nat) (v : Pattern) : (busBits w v).length = w := by simp [busBits]

@[simp] theorem drivePins_guard (es : List PinEvent) (s : State) : (drivePins es s).guard = s.guard := by
  rw [drivePins_eq]
@[simp] theorem drivePins_sigId (es : List PinEvent) (s : State) : (drivePins es s).sigId = s.sigId := by
  rw [drivePins_eq]
@[simp] theorem drivePins_sigIdx (es : List PinEvent) (s : State) : (drivePins es s).sigIdx = s.sigIdx := by
  rw [drivePins_eq]
@[simp] theorem drivePins_sigCnt (es : List PinEvent) (s : State) : (drivePins es s).sigCnt = s.sigCnt := by
  rw [drivePins_eq]
@[simp] theorem drivePins_held (es : List PinEvent) (s : State) : (drivePins es s).held = s.held := by
  rw [drivePins_eq]
@[simp] theorem drivePins_heldVal (es : List PinEvent) (s : State) : (drivePins es s).heldVal = s.heldVal := by
  rw [drivePins_eq]
@[simp] theorem drivePins_chaseOn (es : List PinEvent) (s : State) : (drivePins es s).chaseOn = s.chaseOn := by
  rw [drivePins_eq]
@[simp] theorem drivePins_offDone (es : List PinEvent) (s : State) : (drivePins es s).offDone = s.offDone := by
  rw [drivePins_eq]
@[simp] theorem drivePins_stopped (es : List PinEvent) (s : State) : (drivePins es s).stopped = s.stopped := by
  rw [drivePins_eq]
@[simp] theorem drivePins_seqNum (es : List PinEvent) (s : State) : (drivePins es s).seqNum = s.seqNum := by
  rw [drivePins_eq]
@[simp] theorem drivePins_chaseIdx (es : List PinEvent) (s : State) : (drivePins es s).chaseIdx = s.chaseIdx := by
  rw [drivePins_eq]
@[simp] theorem drivePins_chaseCnt (es : List PinEvent) (s : State) : (drivePins es s).chaseCnt = s.chaseCnt := by
  rw [drivePins_eq]
@[simp] theorem drivePins_speed (es : List PinEvent) (s : State) : (drivePins es s).speed = s.speed := by
  rw [drivePins_eq]
@[simp] theorem drivePins_lastValid (es : List PinEvent) (s : State) : (drivePins es s).lastValid = s.lastValid := by
  rw [drivePins_eq]
@[simp] theorem drivePins_lastBus (es : List PinEvent) (s : State) : (drivePins es s).lastBus = s.lastBus := by
  rw [drivePins_eq]
@[simp] theorem drivePins_cfg (es : List PinEvent) (s : State) : (drivePins es s).cfg = s.cfg := by
  rw [drivePins_eq]
@[simp] theorem drivePins_phase (es : List PinEvent) (s : State) : (drivePins es s).phase = s.phase := by
  rw [drivePins_eq]
@[simp] theorem drivePins_expansion (es : List PinEvent) (s : State) : (drivePins es s).expansion = s.expansion := by
  rw [drivePins_eq]
@[simp] theorem drivePins_queue (es : List PinEvent) (s : State) : (drivePins es s).queue = s.queue := by
  rw [drivePins_eq]
@[simp] theorem drivePins_sched (es : List PinEvent) (s : State) : (drivePins es s).sched = s.sched := by
  rw [drivePins_eq]
@[simp] theorem drivePins_turn (es : List PinEvent) (s : State) : (drivePins es s).turn = s.turn := by
  rw [drivePins_eq]
@[simp] theorem drivePins_performed (es : List PinEvent) (s : State) : (drivePins es s).performed = s.performed := by
  rw [drivePins_eq]
@[simp] theorem drivePins_writes (es : List PinEvent) (s : State) : (drivePins es s).writes = s.writes := by
  rw [drivePins_eq]

@[simp] theorem busWrite_guard (v : Pattern) (s : State) : (busWrite v s).guard = s.guard := by
  simp [busWrite]
@[simp] theorem busWrite_sigId (v : Pattern) (s : State) : (busWrite v s).sigId = s.sigId := by
  simp [busWrite]
@[simp] theorem busWrite_sigIdx (v : Pattern) (s : State) : (busWrite v s).sigIdx = s.sigIdx := by
  simp [busWrite]
@[simp] theorem busWrite_sigCnt (v : Pattern) (s : State) : (busWrite v s).sigCnt = s.sigCnt := by
  simp [busWrite]
@[simp] theorem busWrite_held (v : Pattern) (s : State) : (busWrite v s).held = s.held := by
  simp [busWrite]
@[simp] theorem busWrite_heldVal (v : Pattern) (s : State) : (busWrite v s).heldVal = s.heldVal := by
  simp [busWrite]
@[simp] theorem busWrite_chaseOn (v : Pattern) (s : State) : (busWrite v s).chaseOn = s.chaseOn := by
  simp [busWrite]
@[simp] theorem busWrite_offDone (v : Pattern) (s : State) : (busWrite v s).offDone = s.offDone := by
  simp [busWrite]
@[simp] theorem busWrite_stopped (v : Pattern) (s : State) : (busWrite v s).stopped = s.stopped := by
  simp [busWrite]
@[simp] theorem busWrite_seqNum (v : Pattern) (s : State) : (busWrite v s).seqNum = s.seqNum := by
  simp [busWrite]
@[simp] theorem busWrite_chaseIdx (v : Pattern) (s : State) : (busWrite v s).chaseIdx = s.chaseIdx := by
  simp [busWrite]
@[simp] theorem busWrite_chaseCnt (v : Pattern) (s : State) : (busWrite v s).chaseCnt = s.chaseCnt := by
  simp [busWrite]
@[simp] theorem busWrite_speed (v : Pattern) (s : State) : (busWrite v s).speed = s.speed := by
  simp [busWrite]
@[simp] theorem busWrite_lastValid (v : Pattern) (s : State) : (busWrite v s).lastValid = true := rfl
@[simp] theorem busWrite_lastBus (v : Pattern) (s : State) : (busWrite v s).lastBus = v := rfl
@[simp] theorem busWrite_cfg (v : Pattern) (s : State) : (busWrite v s).cfg = s.cfg := by
  simp [busWrite]
@[simp] theorem busWrite_phase (v : Pattern) (s : State) : (busWrite v s).phase = s.phase := by
  simp [busWrite]
@[simp] theorem busWrite_expansion (v : Pattern) (s : State) : (busWrite v s).expansion = s.expansion := by
  simp [busWrite]
@[simp] theorem busWrite_queue (v : Pattern) (s : State) : (busWrite v s).queue = s.queue := by
  simp [busWrite]
@[simp] theorem busWrite_sched (v : Pattern) (s : State) : (busWrite v s).sched = s.sched := by
  simp [busWrite]
@[simp] theorem busWrite_turn (v : Pattern) (s : State) : (busWrite v s).turn = s.turn := by
  simp [busWrite]
@[simp] theorem busWrite_performed (v : Pattern) (s : State) : (busWrite v s).performed = s.performed := by
  simp [busWrite]
@[simp] theorem busWrite_writes (v : Pattern) (s : State) : (busWrite v s).writes = s.writes ++ [(s.performed, v)] := by
  simp [busWrite]

@[simp] theorem busWrite_pinLog (v : Pattern) (s : State) :
    (busWrite v s).pinLog = s.pinLog ++ busEvents s.cfg.wBus v := by
  simp [busWrite]

/-- BusWrite changes the pins, SR, LAST_BUS, LAST_VALID and the observation, and nothing else. -/
theorem busWrite_eq (v : Pattern) (s : State) :
    busWrite v s =
      { s with
        clk := (busWrite v s).clk
        dat := (busWrite v s).dat
        lat := (busWrite v s).lat
        srShift := (busWrite v s).srShift
        srOut := (busWrite v s).srOut
        lastBus := v
        lastValid := true
        writes := s.writes ++ [(s.performed, v)]
        pinLog := s.pinLog ++ busEvents s.cfg.wBus v } := by
  conv_lhs => unfold busWrite
  rw [drivePins_eq]
  simp [busWrite]

/-! The number of pin events (R183, R212, R272; log 15) -/

/-- Every pin event is one of DAT, CLK or LAT, so the parts that R212 counts are all there is. -/
theorem pinEvents_length (es : List PinEvent) :
    es.length = es.countP (fun e => e.pin == .dat) + es.countP (fun e => e.pin == .clk) + es.countP (fun e => e.pin == .lat) := by
  induction es with
  | nil => rfl
  | cons e es ih => obtain ⟨p, b⟩ := e; cases p <;> simp <;> omega

/-- No sequence of pin events has both the parts that R212 counts and the total it states beside them (log 15). -/
theorem no_events_with_parts_and_total {w : Nat} {es : List PinEvent} (hw : 6 ≤ w)
    (hd : es.countP (fun e => e.pin == .dat) = w) (hc : es.countP (fun e => e.pin == .clk) = 2 * w)
    (hl : es.countP (fun e => e.pin == .lat) = 2) : es.length ≠ 4 * w + 2 := by
  have := pinEvents_length es
  omega

/-- R272's bound on the pin events of one BusWrite. -/
theorem busEvents_length_le (w : Nat) (v : Pattern) : (busEvents w v).length ≤ 4 * w + 2 := by
  have h : ∀ bs : List Bool, (bs.flatMap bitEvents).length = 3 * bs.length := by
    intro bs
    induction bs with
    | nil => rfl
    | cons b bs ih => simp only [List.flatMap_cons, List.length_append, ih, List.length_cons, bitEvents, List.length_nil]; omega
  simp only [busEvents, List.length_append, h, busBits, List.length_map, List.length_reverse, List.length_range, latchEvents,
    List.length_cons, List.length_nil]
  omega

end Sys2Proof.Machine
end

