-- ==== Sys2Proof/Laws/PerInstr.lean ====
section
/-! SUPPORT. Statements made once for each command: the word an encoder writes selects the row of its own mnemonic (R83). -/

namespace Sys2Proof.Laws.EncodeSelectsRow

/-- The word of `i` selects a row of the opcode map, and that row bears the mnemonic of `i` (R83). -/
def Statement (i : Instr) : Prop :=
  ∃ r ∈ opcodeMap, r.1.selects (encode i) = true ∧ r.1.mnemonic = mnemonic i

theorem nop : Statement .nop := ⟨opcodeMap[0], by simp [opcodeMap], by decide, rfl⟩

theorem setspeed (s : Byte) : Statement (.setspeed s) :=
  ⟨opcodeMap[1], by simp [opcodeMap], by revert s; decide, rfl⟩

theorem setseq (n : Byte) : Statement (.setseq n) :=
  ⟨opcodeMap[2], by simp [opcodeMap], by revert n; decide, rfl⟩

theorem setpat (p : Pattern) : Statement (.setpat p) :=
  ⟨opcodeMap[3], by simp [opcodeMap], by revert p; decide, rfl⟩

theorem clrpat : Statement .clrpat := ⟨opcodeMap[4], by simp [opcodeMap], by decide, rfl⟩

theorem signal (i : Byte) : Statement (.signal i) :=
  ⟨opcodeMap[5], by simp [opcodeMap], by revert i; decide, rfl⟩

theorem turnOn : Statement .turnOn := ⟨opcodeMap[6], by simp [opcodeMap], by decide, rfl⟩

theorem turnOff : Statement .turnOff := ⟨opcodeMap[7], by simp [opcodeMap], by decide, rfl⟩

theorem stop (b : BitVec 1) : Statement (.stop b) :=
  ⟨opcodeMap[8], by simp [opcodeMap], by revert b; decide, rfl⟩

end Sys2Proof.Laws.EncodeSelectsRow
end

