-- ==== Sys2Proof/Laws/Steps.lean ====
section
/-! SUPPORT. What each part of a step can do, once: inversion lemmas for the commands, the TICK, FG's phases and the machine's step. -/

namespace Sys2Proof.Machine

/-! Commands -/

/-- A command changes registers of the sequencer only: not the guard, the bus side, SR, the configuration, the agents or the
observation. -/
theorem exec_keeps {i : Instr} {s t : State} (h : exec i s = .next t) :
    t = { s with
      sigId := t.sigId, sigIdx := t.sigIdx, sigCnt := t.sigCnt, held := t.held, heldVal := t.heldVal,
      chaseOn := t.chaseOn, offDone := t.offDone, stopped := t.stopped, seqNum := t.seqNum,
      chaseIdx := t.chaseIdx, chaseCnt := t.chaseCnt, speed := t.speed } := by
  cases i <;> simp only [exec, execNop, execSetspeed, execSetseq, execSetpat, execClrpat, execSignal, execOn, execOff,
    execStop] at h <;> (repeat' split at h) <;> cases h <;> rfl

/-- APPLY runs the decoded command, or nothing for an ILLEGAL word, and moves FG on. -/
theorem applyCommand_cases {w : Word} {s t : State} (h : applyCommand w s = .next t) :
    (∃ i u, decode w = .ok i ∧ exec i s = .next u ∧ t = { u with phase := .applied }) ∨
    (∃ why, decode w = .error why ∧ t = { s with phase := .applied }) := by
  unfold applyCommand at h
  obtain ⟨u, hu, ht⟩ := andThen_eq_next.mp h
  cases ht
  split at hu
  · exact .inl ⟨_, u, ‹_›, hu, rfl⟩
  · cases hu; exact .inr ⟨_, ‹_›, rfl⟩

/-! The TICK -/

/-- ChaseStep shows the entry at CHASE_IDX, or at END the table's first entry. -/
theorem chaseStep_cases {s t : State} (h : chaseStep s = .next t) :
    (∃ e, chaseRead s.cfg s.seqNum.toNat s.chaseIdx.toNat = some e ∧ isEnd8 e = false ∧ t = chaseShow e s.chaseIdx s) ∨
    (∃ e e0, chaseRead s.cfg s.seqNum.toNat s.chaseIdx.toNat = some e ∧ isEnd8 e = true ∧
      chaseRead s.cfg s.seqNum.toNat 0 = some e0 ∧ t = chaseShow e0 0#8 s) := by
  unfold chaseStep at h
  obtain ⟨e, he, ht⟩ := andThen_eq_next.mp h
  rw [readOr_eq_next] at he
  split at ht
  · obtain ⟨e0, he0, ht⟩ := andThen_eq_next.mp ht
    rw [readOr_eq_next] at he0
    cases ht
    exact .inr ⟨e, e0, he, ‹_›, he0, rfl⟩
  · cases ht
    exact .inl ⟨e, he, eq_false_of_ne_true ‹_›, rfl⟩

/-- NormalTick is one of its four branches. -/
theorem normalTick_cases {s t : State} (h : normalTick s = .next t) :
    (s.held = true ∧ t = manualTick s) ∨
    (s.held = false ∧ s.chaseOn = false ∧ t = offTick s) ∨
    (s.held = false ∧ s.chaseOn = true ∧ s.stopped = true ∧ t = s) ∨
    (s.held = false ∧ s.chaseOn = true ∧ s.stopped = false ∧ 1#8 < s.chaseCnt ∧ t = { s with chaseCnt := s.chaseCnt - 1#8 }) ∨
    (s.held = false ∧ s.chaseOn = true ∧ s.stopped = false ∧ ¬ 1#8 < s.chaseCnt ∧ chaseStep s = .next t) := by
  unfold normalTick at h
  split at h
  · cases h; exact .inl ⟨‹_›, rfl⟩
  split at h
  · cases h; exact .inr (.inl ⟨by simpa using ‹¬ s.held = true›, by simpa using ‹(!s.chaseOn) = true›, rfl⟩)
  split at h
  · cases h
    exact .inr (.inr (.inl ⟨by simpa using ‹¬ s.held = true›, by simpa using ‹¬ (!s.chaseOn) = true›, ‹_›, rfl⟩))
  · unfold chaseTick at h
    split at h
    · cases h
      exact .inr (.inr (.inr (.inl ⟨by simpa using ‹¬ s.held = true›, by simpa using ‹¬ (!s.chaseOn) = true›,
        by simpa using ‹¬ s.stopped = true›, ‹_›, rfl⟩)))
    · exact .inr (.inr (.inr (.inr ⟨by simpa using ‹¬ s.held = true›, by simpa using ‹¬ (!s.chaseOn) = true›,
        by simpa using ‹¬ s.stopped = true›, ‹_›, h⟩)))

/-- SpecialTick counts, shows a data step, wraps a LOOP signal to its step 1, or ends a ONESHOT signal and hands over. -/
theorem specialTick_cases {s : State} {r : State × Bool} (h : specialTick s = .next r) :
    (1#16 < s.sigCnt ∧ r = ({ s with sigCnt := s.sigCnt - 1#16 }, false)) ∨
    (¬ 1#16 < s.sigCnt ∧ ∃ e, sigRead s.cfg s.sigId.toNat s.sigIdx.toNat = some e ∧
      ((isEnd32 e = false ∧ r = (signalShow e s.sigIdx s, false)) ∨
       (isEnd32 e = true ∧ sigMode s.cfg s.sigId.toNat = some .loop ∧
          ∃ e1, sigRead s.cfg s.sigId.toNat 1 = some e1 ∧ r = (signalShow e1 1#8 s, false)) ∨
       (isEnd32 e = true ∧ sigMode s.cfg s.sigId.toNat = some .oneshot ∧
          r = (resume { s with sigId := 0#8 }, true)))) := by
  unfold specialTick at h
  split at h
  · cases h; exact .inl ⟨‹_›, rfl⟩
  · refine .inr ⟨‹_›, ?_⟩
    obtain ⟨e, he, ht⟩ := andThen_eq_next.mp h
    rw [readOr_eq_next] at he
    refine ⟨e, he, ?_⟩
    split at ht
    · obtain ⟨m, hm, ht⟩ := andThen_eq_next.mp ht
      rw [readOr_eq_next] at hm
      cases m with
      | loop =>
        obtain ⟨e1, he1, ht⟩ := andThen_eq_next.mp ht
        rw [readOr_eq_next] at he1
        cases ht
        exact .inr (.inl ⟨‹_›, hm, e1, he1, rfl⟩)
      | oneshot => cases ht; exact .inr (.inr ⟨‹_›, hm, rfl⟩)
    · cases ht; exact .inl ⟨eq_false_of_ne_true ‹_›, rfl⟩

/-- A TICK is dropped, is governed by the special signal, is handed over by it, or is governed by another state. -/
theorem tick_cases {s t : State} (h : tick s = .next t) :
    (s.guard = true ∧ t = s) ∨
    (s.guard = false ∧ s.sigId ≠ 0#8 ∧ specialTick (counted s) = .next (t, false)) ∨
    (s.guard = false ∧ s.sigId ≠ 0#8 ∧
      ∃ u, specialTick (counted s) = .next (u, true) ∧ normalTick u = .next t) ∨
    (s.guard = false ∧ s.sigId = 0#8 ∧ normalTick (counted s) = .next t) := by
  unfold tick at h
  split at h
  · cases h; exact .inl ⟨‹_›, rfl⟩
  · have hg : s.guard = false := by simpa using ‹¬ s.guard = true›
    unfold tickBody at h
    split at h
    · obtain ⟨⟨u, b⟩, hu, ht⟩ := andThen_eq_next.mp h
      cases b with
      | false => cases ht; exact .inr (.inl ⟨hg, ‹_›, hu⟩)
      | true => exact .inr (.inr (.inl ⟨hg, ‹_›, u, hu, ht⟩))
    · exact .inr (.inr (.inr ⟨hg, by simpa using ‹¬ s.sigId ≠ 0#8›, h⟩))

/-- With GUARD = 0 and no signal active a TICK is a NormalTick. -/
theorem tick_eq_normalTick {s : State} (hg : s.guard = false) (hs : s.sigId = 0#8) : tick s = normalTick (counted s) := by
  simp [tick, tickBody, hg, hs]

/-- With GUARD = 0 and a signal active a TICK is a SpecialTick, and a NormalTick after it where that hands over. -/
theorem tick_eq_specialTick {s : State} (hg : s.guard = false) (hs : s.sigId ≠ 0#8) :
    tick s = andThen (specialTick (counted s)) fun r => if r.2 then normalTick r.1 else .next r.1 := by
  simp [tick, tickBody, hg, hs]

/-! Agents -/

/-- With no command in progress FG begins a word of its expansion, or the next of what it issues, or does nothing. -/
theorem issueNext_cases (s : State) :
    (s.expansion = [] ∧ s.queue = [] ∧ issueNext s = s) ∨
    (∃ w ws q, issueNext s = beginCommand w { s with expansion := ws, queue := q }) ∨
    (∃ win q, s.queue = .dispatch win :: q ∧ dispatchWords win = [] ∧ issueNext s = { s with queue := q }) := by
  unfold issueNext
  split
  · exact .inr (.inl ⟨_, _, s.queue, rfl⟩)
  · split
    · exact .inl ⟨‹_›, ‹_›, rfl⟩
    · exact .inr (.inl ⟨_, s.expansion, _, rfl⟩)
    · split
      · exact .inr (.inr ⟨_, _, ‹_›, ‹_›, rfl⟩)
      · exact .inr (.inl ⟨_, _, _, rfl⟩)

@[simp] theorem choiceUsed_guard (s : State) : (choiceUsed s).guard = s.guard := by
  unfold choiceUsed; split <;> try split
  all_goals rfl
@[simp] theorem choiceUsed_sigId (s : State) : (choiceUsed s).sigId = s.sigId := by
  unfold choiceUsed; split <;> try split
  all_goals rfl
@[simp] theorem choiceUsed_sigIdx (s : State) : (choiceUsed s).sigIdx = s.sigIdx := by
  unfold choiceUsed; split <;> try split
  all_goals rfl
@[simp] theorem choiceUsed_sigCnt (s : State) : (choiceUsed s).sigCnt = s.sigCnt := by
  unfold choiceUsed; split <;> try split
  all_goals rfl
@[simp] theorem choiceUsed_held (s : State) : (choiceUsed s).held = s.held := by
  unfold choiceUsed; split <;> try split
  all_goals rfl
@[simp] theorem choiceUsed_heldVal (s : State) : (choiceUsed s).heldVal = s.heldVal := by
  unfold choiceUsed; split <;> try split
  all_goals rfl
@[simp] theorem choiceUsed_chaseOn (s : State) : (choiceUsed s).chaseOn = s.chaseOn := by
  unfold choiceUsed; split <;> try split
  all_goals rfl
@[simp] theorem choiceUsed_offDone (s : State) : (choiceUsed s).offDone = s.offDone := by
  unfold choiceUsed; split <;> try split
  all_goals rfl
@[simp] theorem choiceUsed_stopped (s : State) : (choiceUsed s).stopped = s.stopped := by
  unfold choiceUsed; split <;> try split
  all_goals rfl
@[simp] theorem choiceUsed_seqNum (s : State) : (choiceUsed s).seqNum = s.seqNum := by
  unfold choiceUsed; split <;> try split
  all_goals rfl
@[simp] theorem choiceUsed_chaseIdx (s : State) : (choiceUsed s).chaseIdx = s.chaseIdx := by
  unfold choiceUsed; split <;> try split
  all_goals rfl
@[simp] theorem choiceUsed_chaseCnt (s : State) : (choiceUsed s).chaseCnt = s.chaseCnt := by
  unfold choiceUsed; split <;> try split
  all_goals rfl
@[simp] theorem choiceUsed_speed (s : State) : (choiceUsed s).speed = s.speed := by
  unfold choiceUsed; split <;> try split
  all_goals rfl
@[simp] theorem choiceUsed_lastValid (s : State) : (choiceUsed s).lastValid = s.lastValid := by
  unfold choiceUsed; split <;> try split
  all_goals rfl
@[simp] theorem choiceUsed_lastBus (s : State) : (choiceUsed s).lastBus = s.lastBus := by
  unfold choiceUsed; split <;> try split
  all_goals rfl
@[simp] theorem choiceUsed_clk (s : State) : (choiceUsed s).clk = s.clk := by
  unfold choiceUsed; split <;> try split
  all_goals rfl
@[simp] theorem choiceUsed_dat (s : State) : (choiceUsed s).dat = s.dat := by
  unfold choiceUsed; split <;> try split
  all_goals rfl
@[simp] theorem choiceUsed_lat (s : State) : (choiceUsed s).lat = s.lat := by
  unfold choiceUsed; split <;> try split
  all_goals rfl
@[simp] theorem choiceUsed_srShift (s : State) : (choiceUsed s).srShift = s.srShift := by
  unfold choiceUsed; split <;> try split
  all_goals rfl
@[simp] theorem choiceUsed_srOut (s : State) : (choiceUsed s).srOut = s.srOut := by
  unfold choiceUsed; split <;> try split
  all_goals rfl
@[simp] theorem choiceUsed_cfg (s : State) : (choiceUsed s).cfg = s.cfg := by
  unfold choiceUsed; split <;> try split
  all_goals rfl
@[simp] theorem choiceUsed_phase (s : State) : (choiceUsed s).phase = s.phase := by
  unfold choiceUsed; split <;> try split
  all_goals rfl
@[simp] theorem choiceUsed_expansion (s : State) : (choiceUsed s).expansion = s.expansion := by
  unfold choiceUsed; split <;> try split
  all_goals rfl
@[simp] theorem choiceUsed_queue (s : State) : (choiceUsed s).queue = s.queue := by
  unfold choiceUsed; split <;> try split
  all_goals rfl
@[simp] theorem choiceUsed_performed (s : State) : (choiceUsed s).performed = s.performed := by
  unfold choiceUsed; split <;> try split
  all_goals rfl
@[simp] theorem choiceUsed_writes (s : State) : (choiceUsed s).writes = s.writes := by
  unfold choiceUsed; split <;> try split
  all_goals rfl
@[simp] theorem choiceUsed_pinLog (s : State) : (choiceUsed s).pinLog = s.pinLog := by
  unfold choiceUsed; split <;> try split
  all_goals rfl

/-- A step is one agent's, from a well-formed configuration. -/
theorem step_cases {s t : State} (h : step s = .next t) :
    s.cfg.wellFormed = true ∧
      ((nextAgent s = .fg ∧ fgStep (choiceUsed s) = .next t) ∨
       (nextAgent s = .tmr ∧ tick (choiceUsed s) = .next t) ∨
       (nextAgent s = .rst ∧ t = resetBlock (choiceUsed s))) := by
  unfold step machineStep at h
  split at h
  · refine ⟨‹_›, ?_⟩
    cases ha : nextAgent s <;> rw [ha] at h
    · exact .inl ⟨rfl, h⟩
    · exact .inr (.inl ⟨rfl, h⟩)
    · cases h; exact .inr (.inr ⟨rfl, rfl⟩)
  · cases h

/-- From a well-formed configuration the step is the next agent's. -/
theorem step_eq {s : State} (h : s.cfg.wellFormed = true) : step s = agentStep (nextAgent s) (choiceUsed s) := by
  simp [step, machineStep, h]

/-- Where the schedule names the agent, the choice uses up the schedule's head. -/
theorem choice_of_sched {s : State} {a : Agent} {r : List Agent} (h : s.sched = a :: r) :
    nextAgent s = a ∧ choiceUsed s = { s with sched := r } := by
  simp [nextAgent, choiceUsed, h]

/-! The count of performed TICKs, and the range of dispatched speeds -/

/-- ChaseStep counts no TICK: the TICK it belongs to is counted at its entry. -/
theorem chaseStep_performed {s t : State} (h : chaseStep s = .next t) : t.performed = s.performed := by
  rcases chaseStep_cases h with ⟨e, _, _, rfl⟩ | ⟨e, e0, _, _, _, rfl⟩ <;> simp [chaseShow]

/-- NormalTick counts no TICK. -/
theorem normalTick_performed {s t : State} (h : normalTick s = .next t) : t.performed = s.performed := by
  rcases normalTick_cases h with ⟨_, rfl⟩ | ⟨_, _, rfl⟩ | ⟨_, _, _, rfl⟩ | ⟨_, _, _, _, rfl⟩ | ⟨_, _, _, _, h⟩
  · unfold manualTick; split <;> simp
  · unfold offTick; split <;> simp
  · rfl
  · rfl
  · exact chaseStep_performed h

/-- SpecialTick counts no TICK. -/
theorem specialTick_performed {s : State} {r : State × Bool} (h : specialTick s = .next r) :
    r.1.performed = s.performed := by
  rcases specialTick_cases h with ⟨_, rfl⟩ | ⟨_, e, _, ⟨_, rfl⟩ | ⟨_, _, e1, _, rfl⟩ | ⟨_, _, rfl⟩⟩ <;>
    simp [signalShow, resume]

/-- A TICK is counted when it is performed, and not when it is dropped. -/
theorem tick_performed {s t : State} (h : tick s = .next t) :
    t.performed = if s.guard = true then s.performed else s.performed + 1 := by
  rcases tick_cases h with ⟨hg, rfl⟩ | ⟨hg, _, h⟩ | ⟨hg, _, u, h, hu⟩ | ⟨hg, _, h⟩
  · simp [hg]
  · simpa [hg, counted] using specialTick_performed h
  · rw [normalTick_performed hu]; simpa [hg, counted] using specialTick_performed h
  · simpa [hg, counted] using normalTick_performed h

/-- FG's steps count no TICK. -/
theorem fgStep_performed {s t : State} (h : fgStep s = .next t) : t.performed = s.performed := by
  unfold fgStep at h
  split at h
  · cases h
    rcases issueNext_cases s with ⟨_, _, h⟩ | ⟨_, _, _, h⟩ | ⟨_, _, _, _, h⟩ <;> simp [h, beginCommand, setGuard]
  · rcases applyCommand_cases h with ⟨i, u, _, hu, rfl⟩ | ⟨_, _, rfl⟩
    · rw [exec_keeps hu]
    · rfl
  · cases h; rfl

/-- A selector other than 0 gives a speed that PAT.AUTO takes (R104, R108). -/
theorem speedOf_patAutoOk {v : Byte} (_h : v ≠ 0#8) : patAutoOk (speedOf v).toNat = true := by
  have := v.isLt
  simp [patAutoOk, speedOf]
  omega

/-- Dispatch derives well-formed PatternCommands only (R102, R103). -/
theorem derivePatternCommand_wellFormed (win : Window) : (derivePatternCommand win).wellFormed = true := by
  unfold derivePatternCommand
  split
  · rfl
  · split
    · exact speedOf_patAutoOk ‹_›
    · rfl

@[simp] theorem runSteps_zero (s : State) : runSteps 0 s = .next s := rfl

theorem runSteps_succ (k : Nat) (s : State) : runSteps (k + 1) s = andThen (step s) (runSteps k) := rfl

@[simp] theorem tickTimes_zero (s : State) : tickTimes 0 s = .next s := rfl

theorem tickTimes_succ (k : Nat) (s : State) : tickTimes (k + 1) s = andThen (tick s) (tickTimes k) := rfl

end Sys2Proof.Machine
end

