-- ==== Sys2Proof/Tests/Slice0.lean ====
section
/-! SUPPORT. Small tests whose expected values are the spec's own (95_test_vectors.md and the rules' worked examples), the smoke tests of
the checks, and a witness for the hypotheses of each statement. -/

namespace Sys2Proof.Tests

open Sys2Proof Sys2Proof.Machine

/-! ## Decode: words written out from R83 and section 3.1 -/

theorem test_decode_nop : decode 0b0000000000000000#16 = .ok .nop := by decide
theorem test_decode_setspeed : decode 0b0001000000001011#16 = .ok (.setspeed 11#8) := by decide
theorem test_decode_setseq : decode 0b0010000011111111#16 = .ok (.setseq 255#8) := by decide
theorem test_decode_setpat : decode 0b0011000000101010#16 = .ok (.setpat 0b101010#6) := by decide
theorem test_decode_clrpat : decode 0b0100000000000000#16 = .ok .clrpat := by decide
theorem test_decode_signal : decode 0b0101000000001010#16 = .ok (.signal 10#8) := by decide
theorem test_decode_on : decode 0b0110000000000000#16 = .ok .turnOn := by decide
theorem test_decode_off : decode 0b0111000000000000#16 = .ok .turnOff := by decide
theorem test_decode_stop : decode 0b1000000000000001#16 = .ok (.stop 1#1) := by decide
theorem test_decode_reserved_opcode : decode 0x9000#16 = .error .reservedOpcode := by decide
theorem test_decode_rsv_set : decode 0x1100#16 = .error .reservedBits := by decide
theorem test_decode_setpat_bit7 : decode 0x3080#16 = .error .operandBits := by decide
theorem test_decode_stop_bit1 : decode 0x8002#16 = .error .operandBits := by decide
theorem test_decode_table_word : decodeTableWord 16 0x302A = some (.setpat 0x2A#6) := by decide

/-! ## The checks refuse ill-formed terms (U1, R55, R60, R82) -/

theorem smoke_example_accepted : Config.example1.wellFormed = true := by decide
theorem smoke_nchase_zero : (Config.nchaseOk { Config.example1 with nchase := 0, chaseRom := [] }) = false := by decide
theorem smoke_nchase_count : (Config.nchaseOk { Config.example1 with nchase := 3 }) = false := by decide
theorem smoke_nsig_zero : (Config.nsigOk { Config.example1 with nsig := 0, sigRom := [] }) = false := by decide
theorem smoke_nsig_count : (Config.nsigOk { Config.example1 with nsig := 8 }) = false := by decide
theorem smoke_lengths : (Config.lengthsOk { Config.example1 with maxSigLen := 257 }) = false := by decide
theorem smoke_bus_five : (Config.busOk { Config.example1 with wBus := 5 }) = false := by decide
theorem smoke_chase_end_first : chaseTableOk 8 [0xFF#8, 0x01#8, 0xFF#8] = false := by decide
theorem smoke_chase_no_end : chaseTableOk 8 [0x01#8, 0x02#8] = false := by decide
theorem smoke_chase_too_long : chaseTableOk 2 [0x01#8, 0x02#8, 0xFF#8] = false := by decide
theorem smoke_sig_no_tag : sigTableOk 8 [0x00000000#32, 0x0001003F#32, 0x000000C0#32] = false := by decide
theorem smoke_sig_no_step : sigTableOk 8 [0x00000040#32, 0x000000C0#32] = false := by decide
theorem smoke_sig_tag_inside : sigTableOk 8 [0x00000040#32, 0x0001003F#32, 0x00000080#32, 0x000000C0#32] = false := by decide
theorem smoke_sig_too_long : sigTableOk 2 [0x00000040#32, 0x0001003F#32, 0x000000C0#32] = false := by decide
theorem smoke_chase_table_in_config :
    (Config.chaseOk { Config.example1 with chaseRom := [[0x20#8, 0xFF#8], [0xFF#8]] }) = false := by decide
theorem smoke_sig_table_in_config :
    (Config.sigOk { Config.example1 with sigRom := [[0x00000040#32, 0x000000C0#32]] }) = false := by decide
theorem smoke_imm8 : imm8Ok 256 = false := by decide
theorem smoke_imm6 : imm6Ok 64 = false := by decide
theorem smoke_pat_auto_below : Pseudo.wellFormed (.patAuto 1#8) = false := by decide
theorem smoke_pat_auto_above : PatternCommand.wellFormed (.auto 21#8) = false := by decide
theorem smoke_imm1 : imm1Ok 2 = false := by decide

/-! ## Small states -/

/-- The reset state under EXCFG with definite SR contents. -/
def base : State := State.initial Config.example1 (List.replicate 8 true) (List.replicate 8 false)

/-- The state a result answers, or `base`. -/
def after (r : Result) : State :=
  match r with
  | .next t => t
  | _ => base

/-- What one TICK from s writes (none where it does not write). -/
def tickWrites (s : State) : Option Pattern := ((after (tick s)).writes.drop s.writes.length).head?.map Prod.snd

/-- A running chase on table 0. -/
def running : State := { base with chaseOn := true }

/-- Signal `id` about to show the entry at `idx`. -/
def signalled (id idx : BitVec 8) : State := { base with sigId := id, sigIdx := idx }

/-- `base` with word w issued and its BEGIN done, and FG to move. -/
def atApply (w : Word) : State := { base with phase := .begun w, guard := true, sched := [.fg] }

/-! ## Commands: vectors of section 3.3 -/

theorem test_setspeed_zero : (after (exec (.setspeed 0#8) base)).speed = 1#8 := by decide
theorem test_setspeed_keeps_count : (after (exec (.setspeed 5#8) { running with chaseCnt := 2#8 })).chaseCnt = 2#8 := by decide
theorem test_setseq_restarts :
    (let t := after (exec (.setseq 1#8) { running with seqNum := 1#8, chaseIdx := 2#8, chaseCnt := 1#8 })
     (t.seqNum, t.chaseIdx, t.chaseCnt)) = (1#8, 0#8, 0#8) := by decide
theorem test_setseq_out_of_range : (after (exec (.setseq 2#8) base)).seqNum = 0#8 := by decide
theorem test_setpat :
    (let t := after (exec (.setpat 0x2A#6) base); (t.held, t.heldVal)) = (true, 0x2A#6) := by decide
theorem test_clrpat_keeps_index :
    (let t := after (exec .clrpat { running with held := true, heldVal := 5#6, chaseIdx := 3#8, chaseCnt := 2#8, offDone := true })
     (t.held, t.heldVal, t.chaseIdx, t.chaseCnt, t.offDone)) = (false, 5#6, 3#8, 0#8, false) := by decide
theorem test_clrpat_not_held : (after (exec .clrpat { running with chaseCnt := 2#8 })).chaseCnt = 2#8 := by decide
theorem test_signal_preempts :
    (let t := after (exec (.signal 5#8) { signalled 3#8 2#8 with sigCnt := 1#16 }); (t.sigId, t.sigIdx, t.sigCnt)) =
      (5#8, 1#8, 0#16) := by decide
theorem test_signal_clear_resumes :
    (let t := after (exec (.signal 0#8) { signalled 3#8 2#8 with chaseIdx := 4#8, chaseCnt := 2#8, offDone := true })
     (t.sigId, t.sigIdx, t.chaseIdx, t.chaseCnt, t.offDone)) = (0#8, 2#8, 0#8, 0#8, false) := by decide
theorem test_signal_above_nsig : (after (exec (.signal 10#8) base)).sigId = 0#8 := by decide
theorem test_on :
    (let t := after (exec .turnOn { base with offDone := true, chaseIdx := 3#8, chaseCnt := 2#8 })
     (t.chaseOn, t.offDone, t.chaseIdx, t.chaseCnt)) = (true, false, 3#8, 0#8) := by decide
theorem test_on_already : (after (exec .turnOn { running with chaseCnt := 2#8 })).chaseCnt = 2#8 := by decide
theorem test_off : (let t := after (exec .turnOff { running with offDone := true }); (t.chaseOn, t.offDone)) = (false, false) := by decide
theorem test_off_already : (after (exec .turnOff { base with offDone := true })).offDone = true := by decide
theorem test_stop : (after (exec (.stop 1#1) base)).stopped = true := by decide
theorem test_stop_zero : (after (exec (.stop 0#1) { base with stopped := true })).stopped = false := by decide
theorem test_nop : after (exec .nop running) = running := by decide

/-! ## Steps of the machine -/

theorem test_step_applies : (after (step (atApply 0x100B#16))).speed = 11#8 := by decide
theorem test_step_applies_fetch_word : (after (step (State.reset.withFetchWord 16 0x302A))).heldVal = 0x2A#6 := by decide
theorem test_illegal_word_is_nop : (after (step (atApply 0x9000#16))).speed = 2#8 := by decide
theorem test_dropped_tick :
    (after (step { atApply 0x0000#16 with sched := [.tmr], sigId := 1#8, sigIdx := 2#8, sigCnt := 3#16 })).sigCnt = 3#16 := by decide
theorem test_reset_in_a_command :
    (let t := after (step { atApply 0x1009#16 with sched := [.rst], chaseOn := true })
     (t.guard, t.speed, t.chaseOn, t.phase)) = (false, 2#8, false, .idle) := by decide
theorem test_reset_drops_the_expansion :
    (let t := after (step { base with expansion := [0x7000#16], queue := [.word 0x6000#16], sched := [.rst] })
     (t.expansion, t.queue)) = ([], [.word 0x6000#16]) := by decide
theorem test_first_step_after_reset_blanks :
    (let t := after (step State.reset); (t.writes, t.srOut)) = ([(1, 0#6)], List.replicate 8 false) := by decide

/-! ## TICK: vectors of section 3.4, one TICK each -/

theorem test_tick_chase_first : tickWrites running = some 0x20#6 := by decide
theorem test_tick_chase_wraps : tickWrites { running with seqNum := 1#8, chaseIdx := 3#8 } = some 0x21#6 := by decide
theorem test_tick_chase_counts : (after (tick { running with chaseCnt := 2#8 })).chaseCnt = 1#8 := by decide
theorem test_tick_signal_first_step :
    (let t := after (tick (signalled 1#8 1#8)); (t.lastBus, t.sigCnt, t.sigIdx)) = (0x3F#6, 3#16, 2#8) := by decide
theorem test_tick_loop_wraps : (let t := after (tick (signalled 5#8 3#8)); (t.lastBus, t.sigIdx)) = (0x3F#6, 2#8) := by decide
theorem test_tick_oneshot_hands_over :
    (let t := after (tick { signalled 7#8 2#8 with chaseOn := true, chaseIdx := 4#8 }); (t.sigId, t.lastBus, t.chaseIdx)) =
      (0#8, 0x20#6, 1#8) := by decide
theorem test_tick_oneshot_into_stopped :
    tickWrites { signalled 7#8 2#8 with chaseOn := true, stopped := true } = none := by decide
theorem test_tick_held_equal : tickWrites { afterBusWrite 0x20#6 base with held := true, heldVal := 0x20#6 } = none := by decide
theorem test_tick_held_first : tickWrites { base with held := true } = some 0#6 := by decide

/-! ## The bus: R218 and section 3.5 -/

theorem test_bus_events_2A :
    (busEvents 8 0x2A#6).filterMap (fun e => if e.pin = .dat then some e.level else none) =
      [false, false, true, false, true, false, true, false] := by decide
theorem test_bus_width_six :
    ((drivePins (busEvents 6 0x2A#6)
        { base with srShift := [true, true, true, true, true, true], srOut := [false, true, false, true, false, true] }).srOut) =
      [true, false, true, false, true, false] := by decide
theorem test_outermost_light : light (busWrite 0x2A#6 base) 5 = true := by decide

/-! ## Dispatch: section 3.2 and S5 -/

theorem test_dispatch_master_zero : dispatchWords #v[0, 255, 255, 255, 255, 255, 255, 255, 255, 255] = [0x3000#16, 0x7000#16] := by decide
theorem test_dispatch_threshold : dispatchWords #v[1, 10, 10, 0, 127, 128, 0, 255, 128, 127] = [0x3016#16] := by decide
theorem test_dispatch_auto :
    dispatchWords #v[255, 0, 0, 1, 255, 255, 255, 255, 255, 255] = [0x1014#16, 0x6000#16, 0x4000#16] := by decide
theorem test_speed_127 : speedOf 127#8 = 11#8 := by decide

/-! ## The assembler: R89, R90 -/

theorem test_assemble_setpat : assembleLine "SETPAT #0b101010 ; held" = .ok (.command (.setpat 0x2A#6)) := by rfl
theorem test_assemble_out_of_range : assembleLine "SETPAT #64" = .error .outOfRange := by rfl
theorem test_assemble_ticks : assembleLine "TICK*3" = .ok (.ticks 3) := by rfl
theorem test_assemble_auto : assembleLine "PAT.AUTO #0x0B" = .ok (.pseudo (.patAuto 11#8)) := by rfl
theorem test_assemble_auto_below : assembleLine "PAT.AUTO #1" = .error .outOfRange := by rfl
theorem test_assemble_auto_above : assembleLine "PAT.AUTO #21" = .error .outOfRange := by rfl
theorem test_load_listing :
    (let t := loadListing [.command .turnOn, .ticks 2] base; (t.queue, t.sched)) =
      ([.word 0x6000#16], [.fg, .fg, .fg, .tmr, .tmr]) := by decide

/-! ## Witnesses: for each statement with hypotheses, states and operands that meet them together -/

theorem witness_DecodedWordIsItsEncoding : decode 0x8001#16 = .ok (.stop 1#1) := by decide
theorem witness_OpcodeRowsDoNotOverlap :
    ∃ r ∈ opcodeMap, 0x30FF#16 &&& r.1.mask ≠ r.1.pat ∧ 0x303F#16 &&& r.1.mask = r.1.pat :=
  ⟨opcodeMap[3], by simp [opcodeMap], by decide, by decide⟩
theorem witness_SetpatHoldsThePattern : (1#2 : BitVec 2) ≠ 0#2 := by decide
theorem witness_RepeatedCommands :
    exec .turnOn running = .next running ∧ running.chaseOn = true ∧ base.chaseOn = false ∧ base.held = false ∧ base.sigId = 0#8 ∧
      base.seqNum.toNat < base.cfg.nchase ∧ (signalled 9#8 1#8).sigId ≠ 0#8 ∧
      (signalled 9#8 1#8).sigId.toNat ≤ (signalled 9#8 1#8).cfg.nsig ∧ (1#8 : Byte) ≠ 0#8 :=
  ⟨rfl, by decide⟩
theorem witness_StepAppliesTheDecodedCommand :
    (atApply 0x6000#16).cfg.wellFormed = true ∧ decode 0x6000#16 = .ok .turnOn ∧
      (atApply 0x6000#16).phase = .begun 0x6000#16 ∧ (atApply 0x6000#16).sched = [.fg] ∧
      (∃ t, exec .turnOn { atApply 0x6000#16 with sched := [] } = .next t) ∧
      (∃ t, exec .turnOn { atApply 0x6000#16 with phase := .begun 0x6000#16, guard := true } = .next t) :=
  ⟨by decide, by decide, rfl, rfl, ⟨_, rfl⟩, ⟨_, rfl⟩⟩
theorem witness_IllegalWordActsAsNop :
    (atApply 0x9000#16).cfg.wellFormed = true ∧ decode 0x9000#16 = .error .reservedOpcode ∧
      (atApply 0x9000#16).phase = .begun 0x9000#16 ∧ (atApply 0x9000#16).sched = [.fg] := by decide

/-- FG idle with ON and then nothing to issue, and three moves of FG given. -/
def issuing : State := { base with queue := [.word 0x6000#16], sched := [.fg, .fg, .fg] }

theorem witness_CommandTakesThreePhases :
    issuing.cfg.wellFormed = true ∧ issuing.phase = .idle ∧ issuing.expansion = [] ∧ issuing.queue = [.word 0x6000#16] ∧
      issuing.sched = [.fg, .fg, .fg] ∧ decode 0x6000#16 = .ok .turnOn ∧
      (∃ t, exec .turnOn { issuing with guard := true, phase := .begun 0x6000#16, queue := [], sched := [] } = .next t) ∧
      ∃ why, decode 0x0100#16 = .error why :=
  ⟨by decide, rfl, rfl, rfl, rfl, by decide, ⟨_, rfl⟩, ⟨.reservedBits, by decide⟩⟩
theorem witness_CommandsNeverNest :
    (∃ t, step issuing = .next t ∧ t.phase = .begun 0x6000#16) ∧ issuing.phase ≠ .begun 0x6000#16 ∧
      (let s : State := { base with expansion := [0x7000#16], sched := [.fg] }
       s.cfg.wellFormed = true ∧ nextAgent s = .fg ∧ s.phase = .idle ∧ s.expansion = [0x7000#16]) :=
  ⟨⟨after (step issuing), rfl, rfl⟩, by decide, by decide⟩
theorem witness_GuardDropsTicks :
    (let s : State := { base with sched := [.tmr] }; s.cfg.wellFormed = true ∧ s.sched = [.tmr] ∧ s.guard = false) ∧
      (let s : State := { atApply 0x0000#16 with sched := [.tmr] }; s.cfg.wellFormed = true ∧ s.sched = [.tmr] ∧ s.guard = true) := by
  decide
theorem witness_TicksInTheGuardWindowAreLost :
    issuing.cfg.wellFormed = true ∧ issuing.phase = .idle ∧ issuing.expansion = [] ∧ issuing.queue = [.word 0x6000#16] := by decide
theorem witness_EitherReadyAgentMayGoFirst :
    (let s : State := { issuing with sched := [] }; s.cfg.wellFormed = true ∧ s.sched = [] ∧ fgReady s = true) ∧
      (base.cfg.wellFormed = true ∧ base.sched = [] ∧ fgReady base = false) := by decide
theorem witness_WindowGivesItsPatternCommand :
    (#v[0, 0, 0, 255, 0, 0, 0, 0, 0, 0] : Window)[0] = 0#8 ∧
      ((#v[1, 0, 0, 255, 0, 0, 0, 0, 0, 0] : Window)[0] ≠ 0#8 ∧ (#v[1, 0, 0, 255, 0, 0, 0, 0, 0, 0] : Window)[3] ≠ 0#8) ∧
      ((#v[1, 0, 0, 0, 127, 128, 0, 0, 0, 0] : Window)[0] ≠ 0#8 ∧ (#v[1, 0, 0, 0, 127, 128, 0, 0, 0, 0] : Window)[3] = 0#8) := by
  decide
theorem witness_SpeedLawOfTheSelector : (3#8 : Byte) ≠ 0#8 ∧ (242#8 : Byte) ≠ 0#8 ∧ (3#8 : Byte).toNat ≤ (242#8 : Byte).toNat := by decide
theorem witness_DispatchIssuesItsWordsConsecutively :
    (let win : Window := #v[0, 0, 0, 0, 0, 0, 0, 0, 0, 0]
     let s : State := { base with queue := [.dispatch win], sched := List.replicate 6 .fg }
     s.cfg.wellFormed = true ∧ s.phase = .idle ∧ s.expansion = [] ∧ s.queue = [.dispatch win] ∧
       s.sched = List.replicate (3 * (dispatchWords win).length) .fg ++ [] ∧ (dispatchWords win)[1]? = some 0x7000#16) := by decide
theorem witness_DispatchNeverIssuesSignal :
    ∃ t, execAll (expandPattern (derivePatternCommand #v[0, 0, 0, 0, 0, 0, 0, 0, 0, 0])) (signalled 5#8 1#8) = .next t :=
  ⟨_, rfl⟩
theorem witness_NoExpansionShowsAThirdPattern :
    Good running ∧ running.guard = false ∧ expandPattern (.auto 11#8) = [.setspeed 11#8, .turnOn] ++ [.clrpat] ∧
      ∃ u v t, execAll [.setspeed 11#8, .turnOn] running = .next u ∧ execAll (expandPattern (.auto 11#8)) running = .next v ∧
        tick u = .next t :=
  ⟨by decide, rfl, rfl, { running with speed := 11#8 }, { running with speed := 11#8 },
    after (tick { running with speed := 11#8 }), rfl, rfl, rfl⟩
theorem witness_BusShiftsPadThenPatternMsbFirst : 6 ≤ 6 ∧ (busEvents 6 0x2A#6).length = 20 := by decide
theorem witness_BusWriteReplacesTheRegister :
    6 ≤ base.cfg.wBus ∧ base.clk = false ∧ base.lat = false ∧ base.srShift.length = base.cfg.wBus := by decide
theorem witness_LightsHoldUntilTheLatch : 24 ≤ 3 * 8 := by decide
theorem witness_RegisterContentsNeverReachTheBlock : ∃ t, step base = .next t := ⟨after (step base), rfl⟩
theorem witness_HeldPatternIsWrittenWhenItDiffers :
    (let s : State := { base with held := true, heldVal := 0x2A#6 }
     Good s ∧ s.guard = false ∧ s.sigId = 0#8 ∧ s.held = true ∧ s.lastValid = false) ∧
      (let s : State := { afterBusWrite 0x2A#6 base with held := true, heldVal := 0x2A#6 }
       Good s ∧ s.guard = false ∧ s.sigId = 0#8 ∧ s.held = true ∧ s.lastValid = true ∧ s.lastBus = s.heldVal) := by decide
theorem witness_OffIsWrittenExactlyOnce :
    (Good base ∧ base.guard = false ∧ base.sigId = 0#8 ∧ base.held = false ∧ base.chaseOn = false ∧ base.offDone = false) ∧
      (let s : State := { base with offDone := true }
       Good s ∧ s.guard = false ∧ s.sigId = 0#8 ∧ s.held = false ∧ s.chaseOn = false ∧ s.offDone = true) := by decide
theorem witness_StoppedChaseHolds :
    (let s : State := { running with stopped := true }
     s.guard = false ∧ s.sigId = 0#8 ∧ s.held = false ∧ s.chaseOn = true ∧ s.stopped = true) := by decide
theorem witness_ChaseTickCountsOrShowsAnEntry :
    (let s : State := { running with chaseCnt := 2#8 }
     Good s ∧ s.guard = false ∧ s.sigId = 0#8 ∧ s.held = false ∧ s.chaseOn = true ∧ s.stopped = false ∧ 1 < s.chaseCnt.toNat) ∧
      (let s : State := { running with chaseIdx := 5#8, chaseCnt := 1#8 }
       Good s ∧ s.guard = false ∧ s.sigId = 0#8 ∧ s.held = false ∧ s.chaseOn = true ∧ s.stopped = false ∧ s.chaseCnt.toNat ≤ 1 ∧
         s.chaseIdx.toNat < chaseEnd s.cfg s.seqNum.toNat) ∧
      (let s : State := { running with chaseIdx := 6#8 }
       Good s ∧ s.guard = false ∧ s.sigId = 0#8 ∧ s.held = false ∧ s.chaseOn = true ∧ s.stopped = false ∧ s.chaseCnt.toNat ≤ 1 ∧
         s.chaseIdx.toNat = chaseEnd s.cfg s.seqNum.toNat) :=
  ⟨by decide, by decide, by decide⟩
theorem witness_ChaseElementStaysForItsCount :
    (let s : State := { running with chaseCnt := 255#8 }
     s.guard = false ∧ s.sigId = 0#8 ∧ s.held = false ∧ s.chaseOn = true ∧ s.stopped = false ∧ 254 < s.chaseCnt.toNat) := by decide
theorem witness_ChasePlaysItsTablePeriodically :
    (Good running ∧ running.guard = false ∧ running.sigId = 0#8 ∧ running.held = false ∧ running.chaseOn = true ∧
      running.stopped = false ∧ running.chaseCnt.toNat ≤ 1 ∧ running.chaseIdx = 0#8) ∧
      (let s : State := { running with chaseIdx := 6#8, chaseCnt := 1#8 }
       Good s ∧ s.guard = false ∧ s.sigId = 0#8 ∧ s.held = false ∧ s.chaseOn = true ∧ s.stopped = false ∧ s.chaseCnt.toNat ≤ 1 ∧
         s.chaseIdx.toNat = chaseEnd s.cfg s.seqNum.toNat) := by decide
theorem witness_SignalTickCountsOrShowsAStep :
    (let s : State := { signalled 1#8 2#8 with sigCnt := 2#16 }
     Good s ∧ s.guard = false ∧ s.sigId ≠ 0#8 ∧ 1 < s.sigCnt.toNat) ∧
      (let s : State := { signalled 9#8 3#8 with sigCnt := 1#16 }
       Good s ∧ s.guard = false ∧ s.sigId ≠ 0#8 ∧ s.sigCnt.toNat ≤ 1 ∧ s.sigIdx.toNat < sigEnd s.cfg s.sigId.toNat) ∧
      (let s : State := signalled 5#8 3#8
       Good s ∧ s.guard = false ∧ s.sigId ≠ 0#8 ∧ s.sigCnt.toNat ≤ 1 ∧ s.sigIdx.toNat = sigEnd s.cfg s.sigId.toNat ∧
         sigMode s.cfg s.sigId.toNat = some .loop) :=
  ⟨by decide, by decide, by decide⟩
theorem witness_SignalStepStaysForItsDuration :
    (let s : State := { signalled 1#8 2#8 with sigCnt := 65535#16 }
     s.guard = false ∧ s.sigId ≠ 0#8 ∧ 65534 < s.sigCnt.toNat) := by decide
theorem witness_LoopSignalPlaysItsTablePeriodically :
    (let s : State := signalled 3#8 1#8
     Good s ∧ s.guard = false ∧ s.sigId ≠ 0#8 ∧ sigMode s.cfg s.sigId.toNat = some .loop ∧ s.sigCnt.toNat ≤ 1 ∧ s.sigIdx = 1#8) ∧
      (let s : State := { signalled 3#8 3#8 with sigCnt := 1#16 }
       Good s ∧ s.guard = false ∧ s.sigId ≠ 0#8 ∧ sigMode s.cfg s.sigId.toNat = some .loop ∧ s.sigCnt.toNat ≤ 1 ∧
         s.sigIdx.toNat = sigEnd s.cfg s.sigId.toNat) := by decide

/-- A ONESHOT signal at its END, over each of the four states that may resume. -/
def ending (h o p : Bool) : State := { signalled 7#8 2#8 with held := h, chaseOn := o, stopped := p }

theorem witness_OneshotEndHandsOverInTheSameTick :
    (∀ h o p, let s := ending h o p
      Good s ∧ s.guard = false ∧ s.sigId ≠ 0#8 ∧ s.sigCnt.toNat ≤ 1 ∧ s.sigIdx.toNat = sigEnd s.cfg s.sigId.toNat ∧
        sigMode s.cfg s.sigId.toNat = some .oneshot ∧ s.held = h ∧ s.chaseOn = o ∧ s.stopped = p) := by decide
theorem witness_SignalPreemptsAtTheNextTick :
    Good running ∧ running.guard = false ∧ (9#8 : Byte) ≠ 0#8 ∧ (9#8 : Byte).toNat ≤ running.cfg.nsig ∧
      (∃ u, exec (.signal 9#8) running = .next u) ∧ (∃ u, exec (.signal 0#8) (signalled 5#8 1#8) = .next u) :=
  ⟨by decide, rfl, by decide, by decide, ⟨_, rfl⟩, ⟨_, rfl⟩⟩
theorem witness_HeldPatternWaitsForTheSignal :
    (∃ u, exec (.setpat 0x15#6) (signalled 3#8 1#8) = .next u) ∧ (∃ u, exec .clrpat (signalled 3#8 1#8) = .next u) ∧
      (signalled 3#8 1#8).guard = false ∧ (signalled 3#8 1#8).sigId ≠ 0#8 ∧
      ∃ t, tick (signalled 3#8 1#8) = .next t ∧ t.sigId ≠ 0#8 :=
  ⟨⟨_, rfl⟩, ⟨_, rfl⟩, rfl, by decide, after (tick (signalled 3#8 1#8)), rfl, by decide⟩
theorem witness_AtMostOneBusWritePerTick : ∃ t, tick running = .next t := ⟨after (tick running), rfl⟩
theorem witness_OtherStatesCountersHold :
    (∃ t, tick running = .next t) ∧ governing running ≠ .special ∧
      (∃ t, tick base = .next t) ∧ governing base = .chaseOff ∧
      (∃ t, tick (signalled 5#8 1#8) = .next t ∧ t.sigId ≠ 0#8) ∧ governing (signalled 5#8 1#8) = .special :=
  ⟨⟨after (tick running), rfl⟩, by decide, ⟨after (tick base), rfl⟩, by decide,
    ⟨after (tick (signalled 5#8 1#8)), rfl, by decide⟩, by decide⟩
theorem witness_ResetSetsEveryRegister :
    (let s : State := { atApply 0x1009#16 with sched := [.rst] }; s.cfg.wellFormed = true ∧ s.sched = [.rst]) := by decide
theorem witness_FirstTickAfterResetFollowsTheState :
    Config.example1.wellFormed = true ∧ (List.replicate 8 true).length = Config.example1.wBus ∧
      (List.replicate 8 false).length = Config.example1.wBus ∧ (9#8 : Byte) ≠ 0#8 ∧ (9#8 : Byte).toNat ≤ Config.example1.nsig ∧
      (∃ u, exec (.signal 9#8) base = .next u) ∧ (∃ u, exec (.setpat 0#6) base = .next u) ∧ ∃ u, exec .turnOn base = .next u :=
  ⟨by decide, by decide, by decide, by decide, by decide, ⟨_, rfl⟩, ⟨_, rfl⟩, ⟨_, rfl⟩⟩
theorem witness_EveryStepKeepsStatesGood : Good running ∧ ∃ t, step running = .next t :=
  ⟨by decide, after (step running), rfl⟩
theorem witness_GoodStatesAlwaysStep : Good (ending false true false) := by decide
theorem witness_ResetStateIsGood :
    Config.example1.wellFormed = true ∧ (List.replicate 8 true).length = Config.example1.wBus := by decide
theorem witness_ChaseCountStaysWithinSpeed :
    (let s : State := { running with chaseCnt := 2#8, phase := .begun 0x1001#16, guard := true, sched := [.fg] }
     Good s ∧ s.chaseCnt.toNat ≤ s.speed.toNat ∧ (after (step s)).chaseCnt.toNat = 2 ∧ (after (step s)).speed.toNat = 1) := by decide
theorem witness_PinEventsAreTheRecordedWrites : LogsAgree running ∧ ∃ t, step running = .next t :=
  ⟨by decide, after (step running), rfl⟩
theorem witness_RegistersHaveOnlyTheirWriters :
    (∃ t, step (atApply 0x6000#16) = .next t ∧ t.chaseOn ≠ (atApply 0x6000#16).chaseOn) ∧ nextAgent (atApply 0x6000#16) ≠ .rst :=
  ⟨⟨after (step (atApply 0x6000#16)), rfl, by decide⟩, by decide⟩

/-- s steps, not by reset, to a state in which the register read by `f` is another. -/
def changes {α : Type} [DecidableEq α] (f : State → α) (s : State) : Bool :=
  match step s with
  | .next t => decide (f t ≠ f s) && decide (nextAgent s ≠ .rst)
  | _ => false

theorem witness_RegistersHaveOnlyTheirWriters_commands :
    changes State.guard { base with queue := [.word 0x0000#16], sched := [.fg] } = true ∧
      changes State.guard { base with guard := true, phase := .applied, sched := [.fg] } = true ∧
      changes State.sigId (atApply 0x5009#16) = true ∧ changes State.held (atApply 0x3000#16) = true ∧
      changes State.held { atApply 0x4000#16 with held := true } = true ∧ changes State.heldVal (atApply 0x303F#16) = true ∧
      changes State.chaseOn { atApply 0x7000#16 with chaseOn := true } = true ∧
      changes State.offDone { atApply 0x6000#16 with offDone := true } = true ∧
      changes State.stopped (atApply 0x8001#16) = true ∧ changes State.seqNum (atApply 0x2001#16) = true ∧
      changes State.chaseIdx { atApply 0x2000#16 with chaseIdx := 3#8 } = true ∧
      changes State.chaseCnt { atApply 0x6000#16 with chaseCnt := 3#8 } = true ∧ changes State.speed (atApply 0x1000#16) = true := by
  decide
theorem witness_RegistersHaveOnlyTheirWriters_ticks :
    changes State.sigCnt (signalled 1#8 1#8) = true ∧ changes State.offDone base = true ∧
      changes State.chaseIdx running = true ∧ changes State.chaseCnt { running with chaseCnt := 2#8 } = true ∧
      changes State.chaseIdx { ending false true false with chaseIdx := 4#8 } = true ∧
      changes State.lastValid base = true ∧ changes State.lastBus running = true ∧
      changes State.dat { base with held := true, heldVal := 1#6 } = true := by decide
theorem witness_TablesNeverChange : ∃ t, step running = .next t ∧ t.writes ≠ running.writes :=
  ⟨after (step running), rfl, by decide⟩
theorem witness_IllFormedConfigurationsAreRefused :
    (let s : State := { base with cfg := { Config.example1 with wBus := 5 } }; s.cfg.wBus < 6 ∧ s.cfg.wellFormed = false) ∧
      Config.example1.wellFormed = true ∧ 1 < Config.example1.nchase ∧ 9 ≤ Config.example1.nsig := by decide

/-- The run of a dark machine with nothing to issue: TICK after TICK is performed and writes nothing. -/
def darkRun (n : Nat) : State := { base with offDone := true, performed := n }

theorem witness_IdleForegroundLosesNoTick :
    (Good base ∧ base.sched = [] ∧ fgReady base = false) ∧
      IsRun darkRun ∧ TicksNotStarved darkRun ∧ Finitely (IssuesWordAt darkRun) ∧ ¬ Finitely (StrobesAt darkRun) :=
  ⟨by decide, fun _ => rfl, fun _ => ⟨0, fun _ _ h => Bool.noConfusion h.2⟩, ⟨0, fun _ _ h => h.2.2 rfl⟩,
    fun ⟨n, h⟩ => h n (Nat.le_refl n) rfl⟩
theorem witness_UnreadRegistersAreUnobservable :
    hideUnread base = hideUnread { base with sigIdx := 3#8, sigCnt := 1#16, lastBus := 9#6 } ∧
      (∃ t, step base = .next t) ∧ ∃ v, step { base with sigIdx := 3#8, sigCnt := 1#16, lastBus := 9#6 } = .next v :=
  ⟨by decide, ⟨after (step base), rfl⟩,
    ⟨after (step { base with sigIdx := 3#8, sigCnt := 1#16, lastBus := 9#6 }), rfl⟩⟩

end Sys2Proof.Tests
end

namespace Sys2Proof.Machine

/-! ## What a well-formed configuration says about its tables (R55, R60, R62) -/

/-- Every table number below NCHASE has a table, and that table is well-formed (R52, R55). -/
theorem chaseTable_of_wellFormed {c : Config} (hc : c.wellFormed = true) {n : Nat} (hn : n < c.nchase) :
    ∃ t, chaseTable c n = some t ∧ chaseTableOk c.maxChaseLen t = true := by
  simp only [Config.wellFormed, Config.nchaseOk, Config.chaseOk, Bool.and_eq_true, decide_eq_true_eq, List.all_eq_true] at hc
  have hlen : n < c.chaseRom.length := by omega
  exact ⟨c.chaseRom[n], chaseTable_eq_some.mpr ⟨hn, List.getElem?_eq_getElem hlen⟩, hc.1.2 _ (List.getElem_mem hlen)⟩

/-- Every signal id in 1..NSIG has a table, and that table is well-formed (R56, R60). -/
theorem sigTable_of_wellFormed {c : Config} (hc : c.wellFormed = true) {n : Nat} (h1 : 1 ≤ n) (hn : n ≤ c.nsig) :
    ∃ t, sigTable c n = some t ∧ sigTableOk c.maxSigLen t = true := by
  simp only [Config.wellFormed, Config.nsigOk, Config.sigOk, Bool.and_eq_true, decide_eq_true_eq, List.all_eq_true] at hc
  have hlen : n - 1 < c.sigRom.length := by omega
  exact ⟨c.sigRom[n - 1], sigTable_eq_some.mpr ⟨⟨h1, hn⟩, List.getElem?_eq_getElem hlen⟩, hc.2 _ (List.getElem_mem hlen)⟩

/-- The ranges of R7 that a well-formed configuration keeps. -/
theorem ranges_of_wellFormed {c : Config} (hc : c.wellFormed = true) :
    1 ≤ c.nchase ∧ c.maxChaseLen ≤ 256 ∧ c.maxSigLen ≤ 256 ∧ 6 ≤ c.wBus := by
  simp only [Config.wellFormed, Config.nchaseOk, Config.lengthsOk, Config.busOk, Bool.and_eq_true, decide_eq_true_eq] at hc
  omega

/-- The END of a chase table lies past its first entry and within 8 bits (R55). -/
theorem chaseEnd_range {c : Config} (hc : c.wellFormed = true) {n : Nat} (hn : n < c.nchase) :
    1 ≤ chaseEnd c n ∧ chaseEnd c n ≤ 255 := by
  obtain ⟨t, ht, hok⟩ := chaseTable_of_wellFormed hc hn
  have hmax := ranges_of_wellFormed hc
  simp only [chaseTableOk, Bool.and_eq_true, decide_eq_true_eq] at hok
  simp only [chaseEnd, ht, Option.getD_some]
  omega

/-- The END of a signal table lies past its first step and below MAX_SIG_LEN (R60). -/
theorem sigEnd_range {c : Config} (hc : c.wellFormed = true) {n : Nat} (h1 : 1 ≤ n) (hn : n ≤ c.nsig) :
    2 ≤ sigEnd c n ∧ sigEnd c n ≤ c.maxSigLen - 1 := by
  obtain ⟨t, ht, hok⟩ := sigTable_of_wellFormed hc h1 hn
  simp only [sigTableOk, Bool.and_eq_true, decide_eq_true_eq] at hok
  simp only [sigEnd, ht, Option.getD_some]
  omega

/-- A list's entry at the first index where `p` holds satisfies `p`, so an entry up to there that fails it lies before. -/
theorem lt_findIdx_of_not {α : Type} {p : α → Bool} {l : List α} {i : Nat} {e : α} (hread : l[i]? = some e) (he : p e = false)
    (hle : i ≤ l.findIdx p) : i < l.findIdx p := by
  obtain ⟨hi, rfl⟩ := List.getElem?_eq_some_iff.mp hread
  refine lt_of_le_of_ne hle fun heq => ?_
  have hp : p l[i] = true := by simpa [heq] using List.findIdx_getElem (p := p) (xs := l) (w := heq ▸ hi)
  simp [he] at hp

/-- A data entry read not past the END of its chase table lies before the END. -/
theorem lt_chaseEnd_of_data {c : Config} {n i : Nat} {e : Byte} (hread : chaseRead c n i = some e) (he : isEnd8 e = false)
    (hle : i ≤ chaseEnd c n) : i < chaseEnd c n := by
  obtain ⟨t, ht, hi⟩ := chaseRead_eq_some.mp hread
  simp only [chaseEnd, ht, Option.getD_some] at hle ⊢
  exact lt_findIdx_of_not hi he hle

/-- A data step read not past the END of its signal table lies before the END. -/
theorem lt_sigEnd_of_data {c : Config} {n i : Nat} {e : SigEntry} (hread : sigRead c n i = some e) (he : isEnd32 e = false)
    (hle : i ≤ sigEnd c n) : i < sigEnd c n := by
  obtain ⟨t, ht, hi⟩ := sigRead_eq_some.mp hread
  simp only [sigEnd, ht, Option.getD_some] at hle ⊢
  exact lt_findIdx_of_not hi he hle

/-- An 8-bit index below 255 goes to the next one without wrapping (R37). -/
theorem toNat_add_one {i : BitVec 8} (h : i.toNat < 255) : (i + 1#8).toNat = i.toNat + 1 := by
  rw [BitVec.toNat_add, show (1#8).toNat = 1 from rfl]
  omega

/-! ## BusWrite from idle pins (R211 to R217) -/

/-- The three events of one bit, from CLK at 0, shift the bit in and leave DAT at it (R211, R214). -/
theorem drivePins_bitEvents (b : Bool) {s : State} (hclk : s.clk = false) :
    drivePins (bitEvents b) s =
      { s with srShift := shiftIn s.srShift b, dat := b, pinLog := s.pinLog ++ bitEvents b } := by
  cases s
  subst hclk
  cases b <;> simp [bitEvents, drivePin, rises, levelAfter]

/-- One bit shifted in and then the bits `bs` is the bits `b :: bs` shifted in. -/
theorem drop_shiftIn_append (r : List Bool) (b : Bool) (bs : List Bool) :
    (shiftIn r b ++ bs).drop bs.length = (r ++ b :: bs).drop (b :: bs).length := by
  rw [shiftIn, ← List.tail_append_of_ne_nil (by simp), List.drop_tail]
  simp

/-- The events of the bits `bs` shift them in one after the other and leave DAT at the last of them. -/
theorem drivePins_flatMap_bitEvents (bs : List Bool) {s : State} (hclk : s.clk = false) :
    drivePins (bs.flatMap bitEvents) s =
      { s with
        srShift := (s.srShift ++ bs).drop bs.length
        dat := bs.getLastD s.dat
        pinLog := s.pinLog ++ bs.flatMap bitEvents } := by
  induction bs generalizing s with
  | nil => simp
  | cons b bs ih =>
    rw [List.flatMap_cons, drivePins_append, drivePins_bitEvents b hclk, ih (by exact hclk)]
    simp only [drop_shiftIn_append, List.append_assoc, List.getLastD_cons]

/-- The latch pulse, from LAT at 0, copies the shift stage to the outputs (R211, R214). -/
theorem drivePins_latchEvents {s : State} (hlat : s.lat = false) :
    drivePins latchEvents s = { s with srOut := s.srShift, pinLog := s.pinLog ++ latchEvents } := by
  cases s
  subst hlat
  simp [latchEvents, drivePin, rises, levelAfter]

/-- The last bit of a BusWrite is the pattern's bit 0 (R213). -/
theorem busBits_getLastD {w : Nat} (hw : 1 ≤ w) (v : Pattern) (d : Bool) : (busBits w v).getLastD d = v.getLsbD 0 := by
  obtain ⟨k, rfl⟩ := Nat.exists_eq_add_of_le' hw
  simp [busBits, List.range_succ_eq_map]

/-- From idle pins a BusWrite leaves SR holding the zero-extended pattern and the pins idle, whatever SR held (R215, R217). -/
theorem busWrite_eq_afterBusWrite (v : Pattern) {s : State} (hw : 6 ≤ s.cfg.wBus) (hclk : s.clk = false) (hlat : s.lat = false)
    (hlen : s.srShift.length = s.cfg.wBus) : busWrite v s = afterBusWrite v s := by
  have hdrop : (s.srShift ++ busBits s.cfg.wBus v).drop s.cfg.wBus = busBits s.cfg.wBus v := List.drop_left' hlen
  have hlast : (busBits s.cfg.wBus v).getLastD s.dat = v.getLsbD 0 := busBits_getLastD (by omega) v s.dat
  simp only [busWrite, busEvents, drivePins_append, drivePins_flatMap_bitEvents _ hclk]
  rw [drivePins_latchEvents (by exact hlat)]
  simp only [busBits_length, hdrop, hlast, afterBusWrite, busEvents, hclk, hlat, List.append_assoc]

/-! ## Equations of the TICK's branches -/

theorem chaseStep_of_data {s : State} {e : Byte} (hread : chaseRead s.cfg s.seqNum.toNat s.chaseIdx.toNat = some e)
    (he : isEnd8 e = false) : chaseStep s = .next (chaseShow e s.chaseIdx s) := by
  simp [chaseStep, hread, he]

theorem chaseStep_of_end {s : State} {e e0 : Byte} (hread : chaseRead s.cfg s.seqNum.toNat s.chaseIdx.toNat = some e)
    (he : isEnd8 e = true) (hread0 : chaseRead s.cfg s.seqNum.toNat 0 = some e0) :
    chaseStep s = .next (chaseShow e0 0#8 s) := by
  simp [chaseStep, hread, he, hread0]

theorem normalTick_of_held {s : State} (hheld : s.held = true) : normalTick s = .next (manualTick s) := by
  simp [normalTick, hheld]

theorem normalTick_of_off {s : State} (hheld : s.held = false) (hon : s.chaseOn = false) :
    normalTick s = .next (offTick s) := by
  simp [normalTick, hheld, hon]

theorem normalTick_of_stopped {s : State} (hheld : s.held = false) (hon : s.chaseOn = true) (hstop : s.stopped = true) :
    normalTick s = .next s := by
  simp [normalTick, hheld, hon, hstop]

theorem normalTick_of_counting {s : State} (hheld : s.held = false) (hon : s.chaseOn = true) (hstop : s.stopped = false)
    (hcnt : 1#8 < s.chaseCnt) : normalTick s = .next { s with chaseCnt := s.chaseCnt - 1#8 } := by
  simp only [normalTick, chaseTick, hheld, hon, hstop, if_pos hcnt]
  rfl

theorem normalTick_of_due {s : State} (hheld : s.held = false) (hon : s.chaseOn = true) (hstop : s.stopped = false)
    (hcnt : ¬ 1#8 < s.chaseCnt) : normalTick s = chaseStep s := by
  simp only [normalTick, chaseTick, hheld, hon, hstop, if_neg hcnt]
  rfl

theorem specialTick_of_counting {s : State} (hcnt : 1#16 < s.sigCnt) :
    specialTick s = .next ({ s with sigCnt := s.sigCnt - 1#16 }, false) :=
  if_pos hcnt

theorem specialTick_of_data {s : State} {e : SigEntry} (hcnt : ¬ 1#16 < s.sigCnt)
    (hread : sigRead s.cfg s.sigId.toNat s.sigIdx.toNat = some e) (he : isEnd32 e = false) :
    specialTick s = .next (signalShow e s.sigIdx s, false) := by
  simp [specialTick, if_neg hcnt, hread, he]

theorem specialTick_of_loop {s : State} {e e1 : SigEntry} (hcnt : ¬ 1#16 < s.sigCnt)
    (hread : sigRead s.cfg s.sigId.toNat s.sigIdx.toNat = some e) (he : isEnd32 e = true)
    (hmode : sigMode s.cfg s.sigId.toNat = some .loop) (hread1 : sigRead s.cfg s.sigId.toNat 1 = some e1) :
    specialTick s = .next (signalShow e1 1#8 s, false) := by
  simp [specialTick, if_neg hcnt, hread, he, hmode, hread1]

theorem specialTick_of_oneshot {s : State} {e : SigEntry} (hcnt : ¬ 1#16 < s.sigCnt)
    (hread : sigRead s.cfg s.sigId.toNat s.sigIdx.toNat = some e) (he : isEnd32 e = true)
    (hmode : sigMode s.cfg s.sigId.toNat = some .oneshot) :
    specialTick s = .next (resume { s with sigId := 0#8 }, true) := by
  simp [specialTick, if_neg hcnt, hread, he, hmode]

/-! ## Equations of FG's phases and of the choice of the next agent -/

section Issue

variable {s : State}

theorem applyCommand_of_ok {w : Word} {i : Instr} {u : State} (hi : decode w = .ok i) (hu : exec i s = .next u) :
    applyCommand w s = .next { u with phase := .applied } := by
  simp [applyCommand, hi, hu]

theorem applyCommand_of_error {w : Word} {why : Illegal} (hwhy : decode w = .error why) :
    applyCommand w s = .next { s with phase := .applied } := by
  simp [applyCommand, hwhy, execIllegal]

theorem issueNext_of_expansion {w : Word} {ws : List Word} (hexp : s.expansion = w :: ws) :
    issueNext s = beginCommand w { s with expansion := ws } := by
  simp [issueNext, hexp]

theorem issueNext_of_nothing (hexp : s.expansion = []) (hqueue : s.queue = []) : issueNext s = s := by
  simp [issueNext, hexp, hqueue]

theorem issueNext_of_word {w : Word} {as : List FgAction} (hexp : s.expansion = []) (hqueue : s.queue = .word w :: as) :
    issueNext s = beginCommand w { s with queue := as } := by
  simp [issueNext, hexp, hqueue]

theorem issueNext_of_dispatch {win : Window} {as : List FgAction} {w : Word} {ws : List Word} (hexp : s.expansion = [])
    (hqueue : s.queue = .dispatch win :: as) (hwords : dispatchWords win = w :: ws) :
    issueNext s = beginCommand w { s with queue := as, expansion := ws } := by
  simp [issueNext, hexp, hqueue, hwords]

theorem choiceUsed_of_ready (hsched : s.sched = []) (hready : fgReady s = true) :
    choiceUsed s = { s with turn := s.turn + 1 } := by
  simp [choiceUsed, hsched, hready]

theorem choiceUsed_of_rest (hsched : s.sched = []) (hready : fgReady s = false) : choiceUsed s = s := by
  simp [choiceUsed, hsched, hready]

end Issue

end Sys2Proof.Machine

namespace Sys2Proof.Machine

/-! ## What a command and a step can do, one named case each -/

/-- What APPLY of a command does to a state where it does anything, one constructor per command and case of R132 to R141. -/
inductive ExecEffect (s : State) : Instr → State → Prop where
  | unchanged (i : Instr) : ExecEffect s i s
  | setspeed (x : Byte) : ExecEffect s (.setspeed x) { s with speed := atLeastOne x }
  | setseq (n : Byte) (hn : n.toNat < s.cfg.nchase) :
      ExecEffect s (.setseq n) { s with seqNum := n, chaseIdx := 0#8, chaseCnt := 0#8 }
  | setpat (p : Pattern) : ExecEffect s (.setpat p) { s with held := true, heldVal := p }
  | clrpat : ExecEffect s .clrpat { s with held := false, chaseCnt := 0#8, offDone := false }
  | signalClear : ExecEffect s (.signal 0#8) (resume { s with sigId := 0#8 })
  | signalStart (i : Byte) (hi : i ≠ 0#8) (hle : i.toNat ≤ s.cfg.nsig) :
      ExecEffect s (.signal i) { s with sigId := i, sigIdx := 1#8, sigCnt := 0#16 }
  | turnOn : ExecEffect s .turnOn { s with chaseOn := true, chaseCnt := 0#8, offDone := false }
  | turnOff : ExecEffect s .turnOff { s with chaseOn := false, offDone := false }
  | stop (b : BitVec 1) : ExecEffect s (.stop b) { s with stopped := b == 1#1 }

/-- Every command that completes has one of these effects. -/
theorem exec_effect {i : Instr} {s t : State} (h : exec i s = .next t) : ExecEffect s i t := by
  cases i with
  | nop => cases h; exact .unchanged _
  | setspeed x => cases h; exact .setspeed x
  | setseq n =>
    simp only [exec, execSetseq] at h
    split at h <;> cases h
    · exact .setseq n ‹_›
    · exact .unchanged _
  | setpat p => cases h; exact .setpat p
  | clrpat =>
    simp only [exec, execClrpat] at h
    split at h <;> cases h
    · exact .clrpat
    · exact .unchanged _
  | signal i =>
    simp only [exec, execSignal] at h
    split at h
    next h0 =>
      subst h0
      split at h <;> cases h
      · exact .signalClear
      · exact .unchanged _
    next h0 =>
      split at h <;> cases h
      · exact .signalStart i h0 ‹_›
      · exact .unchanged _
  | turnOn =>
    simp only [exec, execOn] at h
    split at h <;> cases h
    · exact .unchanged _
    · exact .turnOn
  | turnOff =>
    simp only [exec, execOff] at h
    split at h <;> cases h
    · exact .turnOff
    · exact .unchanged _
  | stop b => cases h; exact .stop b

/-- Choosing the next agent uses up the schedule or counts a choice, and changes nothing else. -/
theorem choiceUsed_eq (s : State) : ∃ r k, choiceUsed s = { s with sched := r, turn := k } := by
  unfold choiceUsed
  split
  · exact ⟨_, s.turn, rfl⟩
  · split
    · exact ⟨s.sched, s.turn + 1, rfl⟩
    · exact ⟨s.sched, s.turn, rfl⟩

/-- Every PatternCommand expands into at least one word (R107 to R109). -/
theorem dispatchWords_ne_nil (win : Window) : dispatchWords win ≠ [] := by
  unfold dispatchWords
  cases derivePatternCommand win <;> simp [expandPattern]

/-- With no command in progress FG begins a word, or has none and changes nothing. -/
theorem issueNext_eq (s : State) :
    (∃ w ws q, issueNext s = { s with guard := true, phase := .begun w, expansion := ws, queue := q }) ∨ issueNext s = s := by
  rcases issueNext_cases s with ⟨_, _, h⟩ | ⟨w, ws, q, h⟩ | ⟨win, _, _, hnil, _⟩
  · exact .inr h
  · exact .inl ⟨w, ws, q, h⟩
  · exact absurd hnil (dispatchWords_ne_nil win)

/-- What a step of the machine does to `s`, one constructor per agent's move; `c` is `s` with the choice of the agent used up. -/
inductive StepMove (s c : State) : State → Prop where
  | issue (ha : nextAgent s = .fg) (hp : s.phase = .idle) : StepMove s c (issueNext c)
  | apply {i : Instr} {u : State} (ha : Applies i s) (he : ExecEffect c i u) : StepMove s c { u with phase := .applied }
  | applyIllegal {w : Word} (hp : s.phase = .begun w) : StepMove s c { c with phase := .applied }
  | finish (ha : nextAgent s = .fg) (hp : s.phase = .applied) : StepMove s c (endCommand c)
  | tick {t : State} (ha : nextAgent s = .tmr) (ht : tick c = .next t) : StepMove s c t
  | reset (ha : nextAgent s = .rst) : StepMove s c (resetBlock c)

/-- Every step is one of these moves, made from a well-formed configuration. -/
theorem step_move {s t : State} (h : step s = .next t) :
    s.cfg.wellFormed = true ∧ ∃ r k, StepMove s { s with sched := r, turn := k } t := by
  obtain ⟨hwf, h⟩ := step_cases h
  obtain ⟨r, k, hc⟩ := choiceUsed_eq s
  rw [hc] at h
  refine ⟨hwf, r, k, ?_⟩
  rcases h with ⟨ha, h⟩ | ⟨ha, h⟩ | ⟨ha, rfl⟩
  · unfold fgStep at h
    split at h
    next hp => cases h; exact .issue ha hp
    next w hp =>
      rcases applyCommand_cases h with ⟨i, u, hi, hu, rfl⟩ | ⟨_, _, rfl⟩
      · exact .apply ⟨ha, w, hp, hi⟩ (exec_effect hu)
      · exact .applyIllegal hp
    next hp => cases h; exact .finish ha hp
  · exact .tick ha h
  · exact .reset ha

/-- A command leaves GUARD to the phases it runs in (R130). -/
theorem ExecEffect.guard_eq {s t : State} {i : Instr} (h : ExecEffect s i t) : t.guard = s.guard := by
  cases h <;> rfl

/-! ## The good state (R37): each operation keeps it -/

theorem Good.wellFormed {s : State} (h : Good s) : s.cfg.wellFormed = true := h.1

theorem Good.guardFollowsPhase {s : State} (h : Good s) : GuardFollowsPhase s := h.2.1

theorem Good.signalInTable {s : State} (h : Good s) : SignalInTable s := h.2.2.1

theorem Good.chaseInTable {s : State} (h : Good s) : ChaseInTable s := h.2.2.2.1

theorem Good.with_chaseIdx {s : State} (h : Good s) {i : BitVec 8} (hi : i.toNat ≤ chaseEnd s.cfg s.seqNum.toNat) :
    Good { s with chaseIdx := i } := by
  obtain ⟨hwf, hguard, hsig, ⟨hseq, _⟩, hrest⟩ := h
  exact ⟨hwf, hguard, hsig, ⟨hseq, hi⟩, hrest⟩

theorem Good.with_signal {s : State} (h : Good s) {n i : BitVec 8} (hn : n.toNat ≤ s.cfg.nsig)
    (hi : i.toNat ≤ s.cfg.maxSigLen - 1) (hin : n ≠ 0#8 → 1 ≤ i.toNat ∧ i.toNat ≤ sigEnd s.cfg n.toNat) :
    Good { s with sigId := n, sigIdx := i } := by
  obtain ⟨hwf, hguard, _, hrest⟩ := h
  exact ⟨hwf, hguard, ⟨hn, hi, hin⟩, hrest⟩

/-- An active signal has a well-formed table, so its END is where R60 puts it. -/
theorem Good.sigEnd_range {s : State} (h : Good s) (hs : s.sigId ≠ 0#8) :
    2 ≤ sigEnd s.cfg s.sigId.toNat ∧ sigEnd s.cfg s.sigId.toNat ≤ s.cfg.maxSigLen - 1 := by
  have hpos : s.sigId.toNat ≠ 0 := fun h0 => hs (BitVec.eq_of_toNat_eq h0)
  exact Machine.sigEnd_range h.wellFormed (by omega) h.signalInTable.1

/-- Clearing the signal and resuming (R176) keeps a state good: index 0 is in every chase table. -/
theorem Good.resume {s : State} (h : Good s) : Good (resume { s with sigId := 0#8 }) := by
  obtain ⟨_, hidx, _⟩ := h.signalInTable
  exact (h.with_signal (n := 0#8) (i := s.sigIdx) (by simp) hidx (by simp)).with_chaseIdx (i := 0#8) (by simp)

/-- Each command keeps a state good. -/
theorem Good.exec {s t : State} {i : Instr} (h : Good s) (he : ExecEffect s i t) : Good t := by
  cases he with
  | unchanged => exact h
  | setspeed x =>
    obtain ⟨hwf, hguard, hsig, hchase, _, hrest⟩ := h
    exact ⟨hwf, hguard, hsig, hchase, by simp [SpeedAtLeastOne, atLeastOne]; omega, hrest⟩
  | setseq n hn =>
    obtain ⟨hwf, hguard, hsig, _, hrest⟩ := h
    exact ⟨hwf, hguard, hsig, ⟨hn, by simp⟩, hrest⟩
  | setpat p => exact h
  | clrpat => exact h
  | signalClear => exact h.resume
  | signalStart i hi hle =>
    have hpos : i.toNat ≠ 0 := fun h0 => hi (BitVec.eq_of_toNat_eq h0)
    have hend := Machine.sigEnd_range h.wellFormed (n := i.toNat) (by omega) hle
    exact Good.with_signal h hle (by simp; omega) (fun _ => by simp; omega)
  | turnOn => exact h
  | turnOff => exact h
  | stop b => exact h

/-- A BusWrite keeps a state good: it starts and ends at idle pins and fills SR with the pattern (R215, R217). -/
theorem Good.busWrite {s : State} (h : Good s) (v : Pattern) : Good (busWrite v s) := by
  obtain ⟨hwf, hguard, hsig, hchase, hspeed, ⟨hclk, hlat, _⟩, ⟨hlen, _, _⟩⟩ := h
  obtain ⟨_, _, _, hw⟩ := ranges_of_wellFormed hwf
  rw [busWrite_eq_afterBusWrite v hw hclk hlat hlen]
  exact ⟨hwf, hguard, hsig, hchase, hspeed, ⟨rfl, rfl, by simp [afterBusWrite]⟩, by simp [SrHoldsLastWrite, afterBusWrite]⟩

/-- Showing the data entry at an index before END keeps a state good. -/
theorem Good.chaseShow {s : State} (h : Good s) (e : Byte) {i : BitVec 8}
    (hi : i.toNat < chaseEnd s.cfg s.seqNum.toNat) : Good (chaseShow e i s) := by
  have hend := chaseEnd_range h.wellFormed h.chaseInTable.1
  exact (h.busWrite (chasePat e)).with_chaseIdx (i := i + 1#8) (by
    rw [toNat_add_one (by omega), busWrite_cfg, busWrite_seqNum]; omega)

/-- Showing the data step at an index from 1 to before END keeps a state good. -/
theorem Good.signalShow {s : State} (h : Good s) (hs : s.sigId ≠ 0#8) (e : SigEntry) {i : BitVec 8}
    (hi : i.toNat < sigEnd s.cfg s.sigId.toNat) : Good (signalShow e i s) := by
  have hend := h.sigEnd_range hs
  have hmax := ranges_of_wellFormed h.wellFormed
  have hnext : (i + 1#8).toNat = i.toNat + 1 := toNat_add_one (by omega)
  exact (h.busWrite (sigPat e)).with_signal (n := (Machine.busWrite (sigPat e) s).sigId) (i := i + 1#8)
    (by simpa using h.signalInTable.1) (by rw [hnext, busWrite_cfg]; omega)
    (fun _ => by rw [hnext, busWrite_cfg, busWrite_sigId]; omega)

/-- NormalTick keeps a state good. -/
theorem Good.normalTick {s t : State} (h : Good s) (ht : normalTick s = .next t) : Good t := by
  rcases normalTick_cases ht with ⟨_, rfl⟩ | ⟨_, _, rfl⟩ | ⟨_, _, _, rfl⟩ | ⟨_, _, _, _, rfl⟩ | ⟨_, _, _, _, hstep⟩
  · unfold manualTick
    split
    · exact h.busWrite s.heldVal
    · exact h
  · unfold offTick
    split
    · exact h
    · exact h.busWrite 0#6
  · exact h
  · exact h
  · obtain ⟨hseq, hidx⟩ := h.chaseInTable
    rcases chaseStep_cases hstep with ⟨e, hread, he, rfl⟩ | ⟨_, e0, _, _, _, rfl⟩
    · exact h.chaseShow e (lt_chaseEnd_of_data hread he hidx)
    · exact h.chaseShow e0 (chaseEnd_range h.wellFormed hseq).1

/-- SpecialTick of an active signal keeps a state good. -/
theorem Good.specialTick {s u : State} {b : Bool} (h : Good s) (hs : s.sigId ≠ 0#8) (hu : specialTick s = .next (u, b)) :
    Good u := by
  obtain ⟨_, _, hin⟩ := h.signalInTable
  rcases specialTick_cases hu with
    ⟨_, ⟨⟩⟩ | ⟨_, e, hread, ⟨he, ⟨⟩⟩ | ⟨_, _, e1, _, ⟨⟩⟩ | ⟨_, _, ⟨⟩⟩⟩
  · exact h
  · exact h.signalShow hs e (lt_sigEnd_of_data hread he (hin hs).2)
  · obtain ⟨hend, _⟩ := h.sigEnd_range hs
    exact h.signalShow hs e1 (i := 1#8) (Nat.lt_of_succ_le (by simpa using hend))
  · exact h.resume

/-- The count of performed TICKs is no part of a good state. -/
theorem Good.counted {s : State} (h : Good s) : Good (counted s) := h

/-- A TICK keeps a state good. -/
theorem Good.tick {s t : State} (h : Good s) (ht : tick s = .next t) : Good t := by
  rcases tick_cases ht with ⟨_, rfl⟩ | ⟨_, hs, hspecial⟩ | ⟨_, hs, u, hspecial, hnormal⟩ | ⟨_, _, hnormal⟩
  · exact h
  · exact h.counted.specialTick hs hspecial
  · exact (h.counted.specialTick hs hspecial).normalTick hnormal
  · exact h.counted.normalTick hnormal

/-- Moving FG to another phase keeps a state good where GUARD goes along (R130). -/
theorem Good.with_phase {s : State} (h : Good s) {g : Bool} {p : FgPhase} (hg : g = true ↔ p ≠ .idle) :
    Good { s with guard := g, phase := p } := by
  obtain ⟨hwf, _, hrest⟩ := h
  exact ⟨hwf, hg, hrest⟩

/-- Reset makes a state good, whatever its registers held: it needs the configuration and SR's width only (R43, R260). -/
theorem good_resetBlock {s : State} (hwf : s.cfg.wellFormed = true) (hshift : s.srShift.length = s.cfg.wBus)
    (hout : s.srOut.length = s.cfg.wBus) : Good (resetBlock s) := by
  obtain ⟨hn, _⟩ := ranges_of_wellFormed hwf
  refine ⟨hwf, ?_, ?_, ?_, ?_, ?_, hshift, hout, ?_⟩
  · simp [GuardFollowsPhase]
  · simp [SignalInTable]
  · exact ⟨hn, by simp⟩
  · simp [SpeedAtLeastOne]
  · simp [PinsIdle]
  · simp

/-- Inside a command GUARD is 1 (R130). -/
theorem Good.guard_eq_true {s : State} (h : Good s) (hp : s.phase ≠ .idle) : s.guard = true :=
  h.guardFollowsPhase.mpr hp

/-- FG's issuing of its next action keeps a state good. -/
theorem Good.issueNext {s : State} (h : Good s) : Good (issueNext s) := by
  rcases issueNext_eq s with ⟨w, ws, q, heq⟩ | heq <;> rw [heq]
  · exact h.with_phase (g := true) (p := .begun w) (by simp)
  · exact h

/-- Settles O51: the range invariant of R37 is kept by the commands, the TICK, FG's other phases and reset, one lemma each. -/
theorem everyStepKeepsStatesGood : Obligations.EveryStepKeepsStatesGood := by
  intro s t h hstep
  obtain ⟨hwf, r, k, hmove⟩ := step_move hstep
  have hc : Good { s with sched := r, turn := k } := h
  cases hmove with
  | issue => exact hc.issueNext
  | apply ha he =>
    obtain ⟨_, w, hp, _⟩ := ha
    have hguard := he.guard_eq.trans (h.guard_eq_true (by simp [hp]))
    exact (hc.exec he).with_phase (by simp [hguard])
  | applyIllegal hp =>
    have hguard := h.guard_eq_true (by simp [hp])
    exact hc.with_phase (by simp [hguard])
  | finish => exact hc.with_phase (g := false) (p := .idle) (by simp)
  | tick _ ht => exact hc.tick ht
  | reset =>
    obtain ⟨_, _, _, _, _, _, hshift, hout, _⟩ := h
    exact good_resetBlock hwf hshift hout

/-- Settles O53: the reset state of a configuration is what a reset step leaves, which is good. -/
theorem resetStateIsGood : Obligations.ResetStateIsGood := by
  have hinit : ∀ (c : Config) (a b : List Bool), c.wellFormed = true → a.length = c.wBus → b.length = c.wBus →
      Good (State.initial c a b) :=
    fun c a b hc ha hb => good_resetBlock (s := State.initial c a b) hc ha hb
  exact ⟨hinit, hinit _ _ _ (by decide) (by simp [drawBits]) (by simp [drawBits])⟩

end Sys2Proof.Machine

namespace Sys2Proof.Machine

/-! ## Frames of the TICK: what each of its branches leaves unchanged (R39, R41) -/

/-- ChaseStep writes its index and counter and makes a BusWrite, and changes nothing else. -/
theorem chaseStep_eq {s t : State} (h : chaseStep s = .next t) :
    ∃ v i, t = { busWrite v s with chaseIdx := i, chaseCnt := s.speed } := by
  rcases chaseStep_cases h with ⟨e, _, _, rfl⟩ | ⟨_, e0, _, _, _, rfl⟩
  · exact ⟨_, _, rfl⟩
  · exact ⟨_, _, rfl⟩

/-- What NormalTick can do, one constructor per branch, with the state that governs there (R38). -/
inductive NormalEffect (s : State) : State → Prop where
  | quiet : NormalEffect s s
  | manualShow (hg : normalGoverning s = .manual) : NormalEffect s (busWrite s.heldVal s)
  | offShow (hg : normalGoverning s = .chaseOff) : NormalEffect s { busWrite 0#6 s with offDone := true }
  | chaseCount (hg : normalGoverning s = .chaseRun) : NormalEffect s { s with chaseCnt := s.chaseCnt - 1#8 }
  | chaseShow (v : Pattern) (i : BitVec 8) (hg : normalGoverning s = .chaseRun) :
      NormalEffect s { busWrite v s with chaseIdx := i, chaseCnt := s.speed }

/-- Every NormalTick that completes has one of these effects. -/
theorem normalTick_effect {s t : State} (h : normalTick s = .next t) : NormalEffect s t := by
  rcases normalTick_cases h with
    ⟨hheld, rfl⟩ | ⟨hheld, hon, rfl⟩ | ⟨_, _, _, rfl⟩ | ⟨hheld, hon, hstop, _, rfl⟩ | ⟨hheld, hon, hstop, _, hstep⟩
  · unfold manualTick
    split
    · exact .manualShow (by simp [normalGoverning, hheld])
    · exact .quiet
  · unfold offTick
    split
    · exact .quiet
    · exact .offShow (by simp [normalGoverning, hheld, hon])
  · exact .quiet
  · exact .chaseCount (by simp [normalGoverning, hheld, hon, hstop])
  · obtain ⟨v, i, rfl⟩ := chaseStep_eq hstep
    exact .chaseShow v i (by simp [normalGoverning, hheld, hon, hstop])

/-- What SpecialTick can do while it keeps control: count down, or show a data step and arm its duration (R172 to R174). -/
inductive SpecialEffect (s : State) : State → Prop where
  | count : SpecialEffect s { s with sigCnt := s.sigCnt - 1#16 }
  | showStep (v : Pattern) (d : BitVec 16) (i : BitVec 8) : SpecialEffect s { busWrite v s with sigCnt := d, sigIdx := i }

/-- What a TICK can do, one constructor per way of R170, R171 and R175. -/
inductive TickEffect (s : State) : State → Prop where
  | dropped : TickEffect s s
  | special {t : State} (hg : governing s = .special) (he : SpecialEffect (counted s) t) : TickEffect s t
  | handover {t : State} (hg : governing s = .special) (he : NormalEffect (resume { counted s with sigId := 0#8 }) t) :
      TickEffect s t
  | normal {t : State} (hs : s.sigId = 0#8) (he : NormalEffect (counted s) t) : TickEffect s t

/-- SpecialTick either keeps control or ends the signal, resumes and hands over (R175). -/
theorem specialTick_effect {s t : State} {b : Bool} (h : specialTick s = .next (t, b)) :
    (b = false ∧ SpecialEffect s t) ∨ (b = true ∧ t = resume { s with sigId := 0#8 }) := by
  rcases specialTick_cases h with ⟨_, ⟨⟩⟩ | ⟨_, e, _, ⟨_, ⟨⟩⟩ | ⟨_, _, e1, _, ⟨⟩⟩ | ⟨_, _, ⟨⟩⟩⟩
  · exact .inl ⟨rfl, .count⟩
  · exact .inl ⟨rfl, .showStep _ _ _⟩
  · exact .inl ⟨rfl, .showStep _ _ _⟩
  · exact .inr ⟨rfl, rfl⟩

/-- Every TICK that completes has one of these effects. -/
theorem tick_effect {s t : State} (h : tick s = .next t) : TickEffect s t := by
  rcases tick_cases h with ⟨_, rfl⟩ | ⟨_, hs, hspecial⟩ | ⟨_, hs, u, hspecial, hnormal⟩ | ⟨_, hs, hnormal⟩
  · exact .dropped
  · rcases specialTick_effect hspecial with ⟨_, he⟩ | ⟨⟨⟩, _⟩
    exact .special (by simp [governing, hs]) he
  · rcases specialTick_effect hspecial with ⟨⟨⟩, _⟩ | ⟨_, rfl⟩
    exact .handover (by simp [governing, hs]) (normalTick_effect hnormal)
  · exact .normal hs (normalTick_effect hnormal)

/-- NormalTick leaves the registers of special playback and those that only commands write (R39, R41). -/
theorem NormalEffect.keeps {s t : State} (h : NormalEffect s t) :
    t = { s with
      offDone := t.offDone, chaseIdx := t.chaseIdx, chaseCnt := t.chaseCnt, lastValid := t.lastValid, lastBus := t.lastBus,
      clk := t.clk, dat := t.dat, lat := t.lat, srShift := t.srShift, srOut := t.srOut, writes := t.writes,
      pinLog := t.pinLog } := by
  cases h with
  | quiet => rfl
  | manualShow => rw [busWrite_eq]
  | offShow => rw [busWrite_eq]
  | chaseCount => rfl
  | chaseShow => rw [busWrite_eq]

/-- A TICK leaves the registers that only commands write (R41), FG and the schedule. -/
theorem TickEffect.keeps {s t : State} (h : TickEffect s t) :
    t = { s with
      sigId := t.sigId, sigIdx := t.sigIdx, sigCnt := t.sigCnt, offDone := t.offDone, chaseIdx := t.chaseIdx,
      chaseCnt := t.chaseCnt, lastValid := t.lastValid, lastBus := t.lastBus, clk := t.clk, dat := t.dat, lat := t.lat,
      srShift := t.srShift, srOut := t.srOut, performed := t.performed, writes := t.writes, pinLog := t.pinLog } := by
  cases h with
  | dropped => rfl
  | special _ he =>
    cases he with
    | count => rfl
    | showStep => rw [busWrite_eq]; rfl
  | handover _ he => rw [he.keeps]; rfl
  | normal _ he => rw [he.keeps]; rfl

/-- With no signal active a TICK is dropped or a NormalTick, so the registers of special playback stay (R39). -/
theorem TickEffect.signal_eq {s t : State} (h : TickEffect s t) (hs : governing s ≠ .special) :
    t.sigId = s.sigId ∧ t.sigIdx = s.sigIdx ∧ t.sigCnt = s.sigCnt := by
  cases h with
  | dropped => exact ⟨rfl, rfl, rfl⟩
  | special hg => exact absurd hg hs
  | handover hg => exact absurd hg hs
  | normal _ he => rw [he.keeps]; exact ⟨rfl, rfl, rfl⟩

/-- NormalTick writes the chase counters only where ChaseRun governs (R39). -/
theorem NormalEffect.chase_eq {s t : State} (h : NormalEffect s t) (hg : normalGoverning s ≠ .chaseRun) :
    t.chaseIdx = s.chaseIdx ∧ t.chaseCnt = s.chaseCnt := by
  cases h with
  | quiet => exact ⟨rfl, rfl⟩
  | manualShow => simp
  | offShow => simp
  | chaseCount hrun => exact absurd hrun hg
  | chaseShow _ _ hrun => exact absurd hrun hg

/-- SpecialTick leaves SIG_ID and the chase while it keeps control (R39). -/
theorem SpecialEffect.keeps_chase {s t : State} (h : SpecialEffect s t) :
    t.sigId = s.sigId ∧ t.chaseIdx = s.chaseIdx ∧ t.chaseCnt = s.chaseCnt ∧ t.offDone = s.offDone := by
  cases h with
  | count => exact ⟨rfl, rfl, rfl, rfl⟩
  | showStep => simp

/-- A TICK writes the chase counters only where ChaseRun governs or a signal ends (R39, R175; log 14). -/
theorem TickEffect.chase_eq {s t : State} (h : TickEffect s t) (hrun : governing s ≠ .chaseRun)
    (hend : governing s = .special → t.sigId ≠ 0#8) : t.chaseIdx = s.chaseIdx ∧ t.chaseCnt = s.chaseCnt := by
  cases h with
  | dropped => exact ⟨rfl, rfl⟩
  | special _ he =>
    obtain ⟨_, hidx, hcnt, _⟩ := he.keeps_chase
    exact ⟨hidx, hcnt⟩
  | handover hg he =>
    have hid : t.sigId = 0#8 := by rw [he.keeps]; rfl
    exact absurd hid (hend hg)
  | normal hs he =>
    have hgov : governing s = normalGoverning s := by simp [governing, hs]
    exact he.chase_eq (hgov ▸ hrun)

/-- Settles O48: a TICK writes a counter only through its governing state's effect, the handover excepted. -/
theorem otherStatesCountersHold : Obligations.OtherStatesCountersHold := by
  intro s t h
  have he := tick_effect h
  refine ⟨fun hg => ?_, fun hg => ?_, fun hg hid => ?_⟩
  · obtain ⟨hid, hidx, hcnt⟩ := he.signal_eq hg
    exact ⟨hidx, hcnt, hid⟩
  · have hne : governing s ≠ .chaseRun ∧ governing s ≠ .special := by rcases hg with hg | hg | hg <;> simp [hg]
    exact he.chase_eq hne.1 fun hspecial => absurd hspecial hne.2
  · exact he.chase_eq (by simp [hg]) fun _ => hid

end Sys2Proof.Machine

namespace Sys2Proof.Machine

/-! ## The writers of each register (R41) -/

/-- NormalTick writes OFF_DONE only where ChaseOff governs (R178). -/
theorem NormalEffect.offDone_eq {s t : State} (h : NormalEffect s t) (hg : normalGoverning s ≠ .chaseOff) :
    t.offDone = s.offDone := by
  cases h with
  | quiet => rfl
  | manualShow => simp
  | offShow hoff => exact absurd hoff hg
  | chaseCount => rfl
  | chaseShow => simp

/-- A TICK writes OFF_DONE only where ChaseOff governs or a signal ends (R176, R178). -/
theorem TickEffect.offDone_eq {s t : State} (h : TickEffect s t) (hoff : governing s ≠ .chaseOff)
    (hend : governing s = .special → t.sigId ≠ 0#8) : t.offDone = s.offDone := by
  cases h with
  | dropped => rfl
  | special _ he =>
    obtain ⟨_, _, _, hdone⟩ := he.keeps_chase
    exact hdone
  | handover hg he =>
    have hid : t.sigId = 0#8 := by rw [he.keeps]; rfl
    exact absurd hid (hend hg)
  | normal hs he =>
    have hgov : governing s = normalGoverning s := by simp [governing, hs]
    exact he.offDone_eq (hgov ▸ hoff)

/-- The registers of the bus side are in `t` as in `s`. -/
structure SameBus (s t : State) : Prop where
  lastValid : t.lastValid = s.lastValid
  lastBus : t.lastBus = s.lastBus
  clk : t.clk = s.clk
  dat : t.dat = s.dat
  lat : t.lat = s.lat

/-- NormalTick makes one recorded BusWrite, or leaves the bus side as it is. -/
theorem NormalEffect.bus_writers {s t : State} (h : NormalEffect s t) :
    SameBus s t ∨ ∃ v, t.writes = s.writes ++ [(s.performed, v)] := by
  cases h with
  | quiet => exact .inl ⟨rfl, rfl, rfl, rfl, rfl⟩
  | manualShow => exact .inr ⟨s.heldVal, by simp⟩
  | offShow => exact .inr ⟨0#6, by simp⟩
  | chaseCount => exact .inl ⟨rfl, rfl, rfl, rfl, rfl⟩
  | chaseShow v => exact .inr ⟨v, by simp⟩

/-- A TICK makes one BusWrite, recorded with the TICK's number, or leaves the bus side as it is (R182, R184). -/
theorem TickEffect.bus_writers {s t : State} (h : TickEffect s t) :
    SameBus s t ∨ ∃ v, t.writes = s.writes ++ [(s.performed + 1, v)] := by
  cases h with
  | dropped => exact .inl ⟨rfl, rfl, rfl, rfl, rfl⟩
  | special _ he =>
    cases he with
    | count => exact .inl ⟨rfl, rfl, rfl, rfl, rfl⟩
    | showStep v => exact .inr ⟨v, by simp⟩
  | handover _ he =>
    refine he.bus_writers.imp_left fun ⟨hvalid, hbus, hclk, hdat, hlat⟩ => ?_
    exact ⟨hvalid, hbus, hclk, hdat, hlat⟩
  | normal _ he =>
    refine he.bus_writers.imp_left fun ⟨hvalid, hbus, hclk, hdat, hlat⟩ => ?_
    exact ⟨hvalid, hbus, hclk, hdat, hlat⟩

/-- FG's issuing changes no register but GUARD, and that only to 1 (R130). -/
theorem issueNext_keeps (s : State) :
    ∃ g p e q, issueNext s = { s with guard := g, phase := p, expansion := e, queue := q } ∧ (g = s.guard ∨ g = true) := by
  rcases issueNext_eq s with ⟨w, ws, q, h⟩ | h
  · exact ⟨true, _, _, _, h, .inr rfl⟩
  · exact ⟨s.guard, s.phase, s.expansion, s.queue, h, .inl rfl⟩

/-- What a step other than reset does to the registers: GUARD moves with the phases of a command, and every other register is written
by the command applied or by a TICK. -/
inductive RegisterStep (s : State) : State → Prop where
  | guard (g : Bool) (p : FgPhase) (e : List Word) (q : List FgAction) (r : List Agent) (k : Nat)
      (hg : g ≠ s.guard → nextAgent s = .fg ∧ ((s.phase = .idle ∧ g = true) ∨ (s.phase = .applied ∧ g = false))) :
      RegisterStep s { s with guard := g, phase := p, expansion := e, queue := q, sched := r, turn := k }
  | applies {i : Instr} {u : State} (r : List Agent) (k : Nat) (ha : Applies i s)
      (he : ExecEffect { s with sched := r, turn := k } i u) : RegisterStep s { u with phase := .applied }
  | tick {t : State} (r : List Agent) (k : Nat) (ha : nextAgent s = .tmr)
      (he : TickEffect { s with sched := r, turn := k } t) : RegisterStep s t

/-- Every step of an agent other than reset is one of these. -/
theorem step_register {s t : State} (h : step s = .next t) (hr : nextAgent s ≠ .rst) : RegisterStep s t := by
  obtain ⟨_, r, k, hmove⟩ := step_move h
  cases hmove with
  | issue ha hp =>
    obtain ⟨g, p, e, q, heq, hg⟩ := issueNext_keeps { s with sched := r, turn := k }
    rw [heq]
    exact .guard g p e q r k fun hne => ⟨ha, .inl ⟨hp, hg.resolve_left hne⟩⟩
  | apply ha he => exact .applies r k ha he
  | applyIllegal => exact .guard s.guard .applied s.expansion s.queue r k fun hne => absurd rfl hne
  | finish ha hp => exact .guard false .idle s.expansion s.queue r k fun _ => ⟨ha, .inr ⟨hp, rfl⟩⟩
  | tick ha ht => exact .tick r k ha (tick_effect ht)
  | reset ha => exact absurd ha hr

/-- The registers that commands alone write are in `t` as in `s`. -/
structure SameSettings (s t : State) : Prop where
  held : t.held = s.held
  heldVal : t.heldVal = s.heldVal
  chaseOn : t.chaseOn = s.chaseOn
  stopped : t.stopped = s.stopped
  seqNum : t.seqNum = s.seqNum
  speed : t.speed = s.speed

/-- A TICK leaves the registers that commands alone write. -/
theorem TickEffect.sameSettings {s t : State} (h : TickEffect s t) : SameSettings s t := by
  rw [h.keeps]
  exact ⟨rfl, rfl, rfl, rfl, rfl, rfl⟩

section Writers

variable {s t : State}

/-- A step that is no APPLY of a command leaves the registers that commands alone write. -/
theorem RegisterStep.settings (h : RegisterStep s t) :
    SameSettings s t ∨
    ∃ r k i u, Applies i s ∧ ExecEffect { s with sched := r, turn := k } i u ∧ t = { u with phase := .applied } := by
  cases h with
  | guard => exact .inl ⟨rfl, rfl, rfl, rfl, rfl, rfl⟩
  | applies r k ha he => exact .inr ⟨r, k, _, _, ha, he, rfl⟩
  | tick r k _ he =>
    obtain ⟨hheld, hval, hon, hstop, hseq, hspeed⟩ := he.sameSettings
    exact .inl ⟨hheld, hval, hon, hstop, hseq, hspeed⟩

/-- GUARD is written by BEGIN, to 1, and by END, to 0. -/
theorem RegisterStep.guard_writers (h : RegisterStep s t) (hne : t.guard ≠ s.guard) :
    nextAgent s = .fg ∧ ((s.phase = .idle ∧ t.guard = true) ∨ (s.phase = .applied ∧ t.guard = false)) := by
  cases h with
  | guard _ _ _ _ _ _ hg => exact hg hne
  | applies _ _ _ he => exact absurd he.guard_eq hne
  | tick _ _ _ he => rw [he.keeps] at hne; exact absurd rfl hne

/-- SIG_ID, SIG_IDX and SIG_CNT are written by SIGNAL and by special playback. -/
theorem RegisterStep.signal_writers (h : RegisterStep s t)
    (hne : t.sigId ≠ s.sigId ∨ t.sigIdx ≠ s.sigIdx ∨ t.sigCnt ≠ s.sigCnt) :
    (∃ i, Applies (.signal i) s) ∨ (nextAgent s = .tmr ∧ governing s = .special) := by
  cases h with
  | guard => simp at hne
  | applies _ _ ha he =>
    cases he with
    | signalClear => exact .inl ⟨_, ha⟩
    | signalStart i => exact .inl ⟨i, ha⟩
    | _ => simp at hne
  | tick _ _ ha he =>
    refine .inr ⟨ha, ?_⟩
    by_contra hg
    obtain ⟨hid, hidx, hcnt⟩ := he.signal_eq hg
    simp [hid, hidx, hcnt] at hne

/-- HELD is set by SETPAT and cleared by CLRPAT. -/
theorem RegisterStep.held_writers (h : RegisterStep s t) (hne : t.held ≠ s.held) :
    ((∃ p, Applies (.setpat p) s) ∧ t.held = true) ∨ (Applies .clrpat s ∧ t.held = false) := by
  obtain hsame | ⟨_, _, _, _, ha, he, rfl⟩ := h.settings
  · exact absurd hsame.held hne
  · cases he with
    | setpat p => exact .inl ⟨⟨p, ha⟩, rfl⟩
    | clrpat => exact .inr ⟨ha, rfl⟩
    | _ => exact absurd rfl hne

/-- HELD_VAL is written by SETPAT, with its operand. -/
theorem RegisterStep.heldVal_writers (h : RegisterStep s t) (hne : t.heldVal ≠ s.heldVal) :
    Applies (.setpat t.heldVal) s := by
  obtain hsame | ⟨_, _, _, _, ha, he, rfl⟩ := h.settings
  · exact absurd hsame.heldVal hne
  · cases he with
    | setpat p => exact ha
    | _ => exact absurd rfl hne

/-- ON is set by the command ON and cleared by OFF. -/
theorem RegisterStep.chaseOn_writers (h : RegisterStep s t) (hne : t.chaseOn ≠ s.chaseOn) :
    (Applies .turnOn s ∧ t.chaseOn = true) ∨ (Applies .turnOff s ∧ t.chaseOn = false) := by
  obtain hsame | ⟨_, _, _, _, ha, he, rfl⟩ := h.settings
  · exact absurd hsame.chaseOn hne
  · cases he with
    | turnOn => exact .inl ⟨ha, rfl⟩
    | turnOff => exact .inr ⟨ha, rfl⟩
    | _ => exact absurd rfl hne

/-- STOPPED is written by STOP. -/
theorem RegisterStep.stopped_writers (h : RegisterStep s t) (hne : t.stopped ≠ s.stopped) : ∃ b, Applies (.stop b) s := by
  obtain hsame | ⟨_, _, _, _, ha, he, rfl⟩ := h.settings
  · exact absurd hsame.stopped hne
  · cases he with
    | stop b => exact ⟨b, ha⟩
    | _ => exact absurd rfl hne

/-- SEQ is written by SETSEQ, with its operand. -/
theorem RegisterStep.seqNum_writers (h : RegisterStep s t) (hne : t.seqNum ≠ s.seqNum) : Applies (.setseq t.seqNum) s := by
  obtain hsame | ⟨_, _, _, _, ha, he, rfl⟩ := h.settings
  · exact absurd hsame.seqNum hne
  · cases he with
    | setseq n => exact ha
    | _ => exact absurd rfl hne

/-- SPEED is written by SETSPEED. -/
theorem RegisterStep.speed_writers (h : RegisterStep s t) (hne : t.speed ≠ s.speed) : ∃ x, Applies (.setspeed x) s := by
  obtain hsame | ⟨_, _, _, _, ha, he, rfl⟩ := h.settings
  · exact absurd hsame.speed hne
  · cases he with
    | setspeed x => exact ⟨x, ha⟩
    | _ => exact absurd rfl hne

/-- OFF_DONE is cleared by ON, OFF, CLRPAT and SIGNAL 0, and written by OffTick and by the end of a signal. -/
theorem RegisterStep.offDone_writers (h : RegisterStep s t) (hne : t.offDone ≠ s.offDone) :
    ((Applies .turnOn s ∨ Applies .turnOff s ∨ Applies .clrpat s ∨ Applies (.signal 0#8) s) ∧ t.offDone = false) ∨
    (nextAgent s = .tmr ∧ (governing s = .chaseOff ∨ (governing s = .special ∧ t.sigId = 0#8))) := by
  cases h with
  | guard => exact absurd rfl hne
  | applies _ _ ha he =>
    cases he with
    | turnOn => exact .inl ⟨.inl ha, rfl⟩
    | turnOff => exact .inl ⟨.inr (.inl ha), rfl⟩
    | clrpat => exact .inl ⟨.inr (.inr (.inl ha)), rfl⟩
    | signalClear => exact .inl ⟨.inr (.inr (.inr ha)), rfl⟩
    | _ => exact absurd rfl hne
  | tick _ _ ha he =>
    refine .inr ⟨ha, ?_⟩
    by_contra hg
    rw [not_or, not_and] at hg
    exact hne (he.offDone_eq hg.1 hg.2)

/-- A TICK that writes a chase counter is governed by ChaseRun or ends a signal. -/
theorem TickEffect.chase_writers (h : TickEffect s t) (hne : t.chaseIdx ≠ s.chaseIdx ∨ t.chaseCnt ≠ s.chaseCnt) :
    governing s = .chaseRun ∨ (governing s = .special ∧ t.sigId = 0#8) := by
  by_contra hg
  rw [not_or, not_and] at hg
  obtain ⟨hidx, hcnt⟩ := h.chase_eq hg.1 hg.2
  exact hne.elim (· hidx) (· hcnt)

/-- CHASE_IDX is written by SETSEQ, SIGNAL 0, ChaseTick and the end of a signal. -/
theorem RegisterStep.chaseIdx_writers (h : RegisterStep s t) (hne : t.chaseIdx ≠ s.chaseIdx) :
    (∃ n, Applies (.setseq n) s) ∨ Applies (.signal 0#8) s ∨
    (nextAgent s = .tmr ∧ (governing s = .chaseRun ∨ (governing s = .special ∧ t.sigId = 0#8))) := by
  cases h with
  | guard => exact absurd rfl hne
  | applies _ _ ha he =>
    cases he with
    | setseq n => exact .inl ⟨n, ha⟩
    | signalClear => exact .inr (.inl ha)
    | _ => exact absurd rfl hne
  | tick _ _ ha he => exact .inr (.inr ⟨ha, he.chase_writers (.inl hne)⟩)

/-- CHASE_CNT is written by SETSEQ, ON, CLRPAT, SIGNAL 0, ChaseTick and the end of a signal. -/
theorem RegisterStep.chaseCnt_writers (h : RegisterStep s t) (hne : t.chaseCnt ≠ s.chaseCnt) :
    (∃ n, Applies (.setseq n) s) ∨ Applies .turnOn s ∨ Applies .clrpat s ∨ Applies (.signal 0#8) s ∨
    (nextAgent s = .tmr ∧ (governing s = .chaseRun ∨ (governing s = .special ∧ t.sigId = 0#8))) := by
  cases h with
  | guard => exact absurd rfl hne
  | applies _ _ ha he =>
    cases he with
    | setseq n => exact .inl ⟨n, ha⟩
    | turnOn => exact .inr (.inl ha)
    | clrpat => exact .inr (.inr (.inl ha))
    | signalClear => exact .inr (.inr (.inr (.inl ha)))
    | _ => exact absurd rfl hne
  | tick _ _ ha he => exact .inr (.inr (.inr (.inr ⟨ha, he.chase_writers (.inr hne)⟩)))

/-- A step other than reset keeps the bus side, or is a TICK whose one BusWrite is recorded. -/
theorem RegisterStep.bus_writers (h : RegisterStep s t) :
    SameBus s t ∨ (nextAgent s = .tmr ∧ ∃ v, t.writes = s.writes ++ [(s.performed + 1, v)]) := by
  cases h with
  | guard => exact .inl ⟨rfl, rfl, rfl, rfl, rfl⟩
  | applies _ _ _ he => cases he <;> exact .inl ⟨rfl, rfl, rfl, rfl, rfl⟩
  | tick _ _ ha he =>
    refine he.bus_writers.imp (fun ⟨hvalid, hbus, hclk, hdat, hlat⟩ => ?_) fun hwrite => ⟨ha, hwrite⟩
    exact ⟨hvalid, hbus, hclk, hdat, hlat⟩

end Writers

/-- Settles O56, one register of R41's table after the other. -/
theorem registersHaveOnlyTheirWriters : Obligations.RegistersHaveOnlyTheirWriters := by
  intro s t hstep hr
  have h := step_register hstep hr
  refine ⟨h.guard_writers, h.signal_writers, h.held_writers, h.heldVal_writers, h.chaseOn_writers, h.offDone_writers,
    h.stopped_writers, h.seqNum_writers, h.chaseIdx_writers, h.chaseCnt_writers, h.speed_writers, fun hne => ?_⟩
  refine h.bus_writers.resolve_left fun hbus => ?_
  simp [hbus.lastValid, hbus.lastBus, hbus.clk, hbus.dat, hbus.lat] at hne

/-- Settles O49: the step that the schedule gives to reset is `resetBlock`, field by field. -/
theorem resetSetsEveryRegister : Obligations.ResetSetsEveryRegister := by
  intro s rest hwf hsched
  obtain ⟨ha, hc⟩ := choice_of_sched hsched
  refine ⟨resetBlock { s with sched := rest }, by rw [step_eq hwf, ha, hc]; rfl, ?_⟩
  simp

/-- A chase armed with 2 TICKs at SPEED 2, and SETSPEED 1 about to be applied: the counterexample of log 13. -/
def armedBeforeSlowdown : State :=
  { State.initial Config.example1 (List.replicate 8 false) (List.replicate 8 false) with
    guard := true, phase := .begun 0x1001#16, chaseOn := true, chaseIdx := 1#8, chaseCnt := 2#8, sched := [.fg] }

/-- APPLY of SETSPEED 1 stores the new SPEED and leaves CHASE_CNT (R132). -/
theorem step_armedBeforeSlowdown :
    step armedBeforeSlowdown = .next { armedBeforeSlowdown with speed := 1#8, phase := .applied, sched := [] } := by
  rfl

/-- Refutes O54: SETSPEED stores a SPEED below the CHASE_CNT the chase was armed with (R132 against R37). -/
theorem not_chaseCountStaysWithinSpeed : ¬ Obligations.ChaseCountStaysWithinSpeed := by
  intro h
  have hle := h armedBeforeSlowdown _ (by decide) (by decide) step_armedBeforeSlowdown
  exact absurd hle (by decide)

end Sys2Proof.Machine

namespace Sys2Proof.Machine

/-! ## Noninterference: two machines that differ in registers no rule reads make the same steps -/

/-- Contents for the registers that two machines of the same behaviour may differ in. -/
structure Hidden where
  srShift : List Bool
  srOut : List Bool
  sigIdx : BitVec 8
  sigCnt : BitVec 16
  lastBus : Pattern

/-- The state with other contents of those registers. -/
def withHidden (d : Hidden) (s : State) : State :=
  { s with srShift := d.srShift, srOut := d.srOut, sigIdx := d.sigIdx, sigCnt := d.sigCnt, lastBus := d.lastBus }

/-- `u` is `s` but for SR's contents, where `p` lets those differ, and for the registers that no rule reads just now (U14), where `q`
lets those differ: SIG_IDX and SIG_CNT while no signal is active, LAST_BUS before the first BusWrite. -/
structure Twin (p q : Prop) (s u : State) : Prop where
  rest : ∃ d, u = withHidden d s
  sr : p ∨ (u.srShift = s.srShift ∧ u.srOut = s.srOut)
  signal : (q ∧ s.sigId = 0#8) ∨ (u.sigIdx = s.sigIdx ∧ u.sigCnt = s.sigCnt)
  bus : (q ∧ s.lastValid = false) ∨ u.lastBus = s.lastBus

/-- The answer `r` has a twin answer in `r'`. -/
def TwinNext (p q : Prop) (t : State) (r : Result) : Prop := ∃ v, r = .next v ∧ Twin p q t v

section Twins

variable {p q : Prop} {s t u : State}

/-- Each pin event reads SR into SR only. -/
theorem Twin.drivePin (h : Twin p q s u) (e : PinEvent) : Twin p q (drivePin e s) (drivePin e u) := by
  obtain ⟨⟨d, rfl⟩, hsr, hsignal, hbus⟩ := h
  refine ⟨⟨{ d with srShift := _, srOut := _ }, rfl⟩, hsr.imp_right fun ⟨hshift, hout⟩ => ?_, hsignal, hbus⟩
  rw [drivePin_srShift, drivePin_srOut, hshift, hout]
  exact ⟨rfl, rfl⟩

theorem Twin.drivePins (h : Twin p q s u) (es : List PinEvent) : Twin p q (drivePins es s) (drivePins es u) := by
  induction es generalizing s u with
  | nil => exact h
  | cons e es ih => exact ih (h.drivePin e)

theorem Twin.cfg_eq (h : Twin p q s u) : u.cfg = s.cfg := by
  obtain ⟨⟨d, rfl⟩, _⟩ := h
  rfl

/-- Twins hand the next step to the same agent. -/
theorem Twin.nextAgent_eq (h : Twin p q s u) : nextAgent u = nextAgent s := by
  obtain ⟨⟨d, rfl⟩, _⟩ := h
  rfl

/-- A BusWrite makes twins agree on LAST_BUS. -/
theorem Twin.busWrite (h : Twin p q s u) (v : Pattern) : Twin p q (busWrite v s) (busWrite v u) := by
  obtain ⟨⟨d, hrest⟩, hsr, hsignal, _⟩ := h.drivePins (busEvents s.cfg.wBus v)
  simp only [Machine.busWrite, h.cfg_eq]
  exact ⟨⟨{ d with lastBus := v }, by rw [hrest]; rfl⟩, hsr, hsignal, .inr rfl⟩

theorem Twin.choiceUsed (h : Twin p q s u) : Twin p q (choiceUsed s) (choiceUsed u) := by
  obtain ⟨⟨d, rfl⟩, hsr, hsignal, hbus⟩ := h
  cases hsched : s.sched with
  | cons a r =>
    rw [(choice_of_sched hsched).2, (choice_of_sched (s := withHidden d s) hsched).2]
    exact ⟨⟨d, rfl⟩, hsr, hsignal, hbus⟩
  | nil =>
    cases hready : fgReady s with
    | false =>
      rw [choiceUsed_of_rest hsched hready, choiceUsed_of_rest (s := withHidden d s) hsched hready]
      exact ⟨⟨d, rfl⟩, hsr, hsignal, hbus⟩
    | true =>
      rw [choiceUsed_of_ready hsched hready, choiceUsed_of_ready (s := withHidden d s) hsched hready]
      exact ⟨⟨d, rfl⟩, hsr, hsignal, hbus⟩

theorem Twin.issueNext (h : Twin p q s u) : Twin p q (issueNext s) (issueNext u) := by
  obtain ⟨⟨d, rfl⟩, hsr, hsignal, hbus⟩ := h
  cases hexp : s.expansion with
  | cons w ws =>
    rw [issueNext_of_expansion hexp, issueNext_of_expansion (s := withHidden d s) hexp]
    exact ⟨⟨d, rfl⟩, hsr, hsignal, hbus⟩
  | nil =>
    rcases hqueue : s.queue with _ | ⟨w | win, as⟩
    · rw [issueNext_of_nothing hexp hqueue, issueNext_of_nothing (s := withHidden d s) hexp hqueue]
      exact ⟨⟨d, rfl⟩, hsr, hsignal, hbus⟩
    · rw [issueNext_of_word hexp hqueue, issueNext_of_word (s := withHidden d s) hexp hqueue]
      exact ⟨⟨d, rfl⟩, hsr, hsignal, hbus⟩
    · obtain ⟨w, ws, hwords⟩ := List.exists_cons_of_ne_nil (dispatchWords_ne_nil win)
      rw [issueNext_of_dispatch hexp hqueue hwords, issueNext_of_dispatch (s := withHidden d s) hexp hqueue hwords]
      exact ⟨⟨d, rfl⟩, hsr, hsignal, hbus⟩

/-- Commands read no hidden register, and SIGNAL, which changes whether a signal is active, arms or hides its registers in both. -/
theorem Twin.exec (h : Twin p q s u) {i : Instr} (hs : exec i s = .next t) : TwinNext p q t (exec i u) := by
  obtain ⟨⟨d, rfl⟩, hsr, hsignal, hbus⟩ := h
  cases i with
  | nop => cases hs; exact ⟨_, rfl, ⟨d, rfl⟩, hsr, hsignal, hbus⟩
  | setspeed n => cases hs; exact ⟨_, rfl, ⟨d, rfl⟩, hsr, hsignal, hbus⟩
  | setseq n =>
    simp only [Machine.exec, execSetseq] at hs ⊢
    split at hs <;> cases hs
    next hn => exact ⟨_, if_pos hn, ⟨d, rfl⟩, hsr, hsignal, hbus⟩
    next hn => exact ⟨_, if_neg hn, ⟨d, rfl⟩, hsr, hsignal, hbus⟩
  | setpat n => cases hs; exact ⟨_, rfl, ⟨d, rfl⟩, hsr, hsignal, hbus⟩
  | clrpat =>
    simp only [Machine.exec, execClrpat] at hs ⊢
    split at hs <;> cases hs
    next hheld => exact ⟨_, if_pos hheld, ⟨d, rfl⟩, hsr, hsignal, hbus⟩
    next hheld => exact ⟨_, if_neg hheld, ⟨d, rfl⟩, hsr, hsignal, hbus⟩
  | signal n =>
    simp only [Machine.exec, execSignal] at hs ⊢
    split at hs
    next h0 =>
      rw [if_pos h0]
      split at hs <;> cases hs
      next hid =>
        exact ⟨_, if_pos hid, ⟨d, rfl⟩, hsr, hsignal.imp_left fun hq => ⟨hq.1, rfl⟩, hbus⟩
      next hid => exact ⟨_, if_neg hid, ⟨d, rfl⟩, hsr, hsignal, hbus⟩
    next h0 =>
      rw [if_neg h0]
      split at hs <;> cases hs
      next hle => exact ⟨_, if_pos hle, ⟨{ d with sigIdx := 1#8, sigCnt := 0#16 }, rfl⟩, hsr, .inr ⟨rfl, rfl⟩, hbus⟩
      next hle => exact ⟨_, if_neg hle, ⟨d, rfl⟩, hsr, hsignal, hbus⟩
  | turnOn =>
    simp only [Machine.exec, execOn] at hs ⊢
    split at hs <;> cases hs
    next hon => exact ⟨_, if_pos hon, ⟨d, rfl⟩, hsr, hsignal, hbus⟩
    next hon => exact ⟨_, if_neg hon, ⟨d, rfl⟩, hsr, hsignal, hbus⟩
  | turnOff =>
    simp only [Machine.exec, execOff] at hs ⊢
    split at hs <;> cases hs
    next hon => exact ⟨_, if_pos hon, ⟨d, rfl⟩, hsr, hsignal, hbus⟩
    next hon => exact ⟨_, if_neg hon, ⟨d, rfl⟩, hsr, hsignal, hbus⟩
  | stop n => cases hs; exact ⟨_, rfl, ⟨d, rfl⟩, hsr, hsignal, hbus⟩

/-- ManualTick compares LAST_BUS only after a BusWrite, where twins agree on it. -/
theorem Twin.manualTick (h : Twin p q s u) : Twin p q (manualTick s) (manualTick u) := by
  have hval : u.heldVal = s.heldVal := by obtain ⟨⟨d, rfl⟩, _⟩ := h; rfl
  have hread : (u.lastValid = false ∨ u.lastBus ≠ s.heldVal) ↔ (s.lastValid = false ∨ s.lastBus ≠ s.heldVal) := by
    obtain ⟨⟨d, rfl⟩, _, _, ⟨_, hinvalid⟩ | hbus⟩ := h
    · simp [withHidden, hinvalid]
    · rw [hbus]; rfl
  simp only [Machine.manualTick, hval, hread]
  split
  · exact h.busWrite s.heldVal
  · exact h

theorem Twin.offTick (h : Twin p q s u) : Twin p q (offTick s) (offTick u) := by
  have hdone : u.offDone = s.offDone := by obtain ⟨⟨d, rfl⟩, _⟩ := h; rfl
  simp only [Machine.offTick, hdone]
  split
  · exact h
  · obtain ⟨⟨d, hrest⟩, hsr, hsignal, hbus⟩ := h.busWrite 0#6
    exact ⟨⟨d, by rw [hrest]; rfl⟩, hsr, hsignal, hbus⟩

theorem Twin.chaseShow (h : Twin p q s u) (e : Byte) (i : BitVec 8) : Twin p q (chaseShow e i s) (chaseShow e i u) := by
  have hspeed : u.speed = s.speed := by obtain ⟨⟨d, rfl⟩, _⟩ := h; rfl
  obtain ⟨⟨d, hrest⟩, hsr, hsignal, hbus⟩ := h.busWrite (chasePat e)
  simp only [Machine.chaseShow, hspeed]
  exact ⟨⟨d, by rw [hrest]; rfl⟩, hsr, hsignal, hbus⟩

/-- Showing a data step makes twins agree on SIG_IDX and SIG_CNT. -/
theorem Twin.signalShow (h : Twin p q s u) (e : SigEntry) (i : BitVec 8) : Twin p q (signalShow e i s) (signalShow e i u) := by
  obtain ⟨⟨d, hrest⟩, hsr, _, hbus⟩ := h.busWrite (sigPat e)
  exact ⟨⟨{ d with sigIdx := i + 1#8, sigCnt := sigDur e }, by rw [Machine.signalShow, hrest]; rfl⟩, hsr, .inr ⟨rfl, rfl⟩, hbus⟩

theorem Twin.chaseStep (h : Twin p q s u) (ht : chaseStep s = .next t) : TwinNext p q t (chaseStep u) := by
  have hshow := h.chaseShow
  obtain ⟨⟨d, rfl⟩, _⟩ := h
  rcases chaseStep_cases ht with ⟨e, hread, he, rfl⟩ | ⟨e, e0, hread, he, hread0, rfl⟩
  · exact ⟨_, chaseStep_of_data (s := withHidden d s) hread he, hshow e _⟩
  · exact ⟨_, chaseStep_of_end (s := withHidden d s) hread he hread0, hshow e0 _⟩

/-- NormalTick reads LAST_BUS alone of the hidden registers. -/
theorem Twin.normalTick (h : Twin p q s u) (ht : normalTick s = .next t) : TwinNext p q t (normalTick u) := by
  have hmanual := h.manualTick
  have hoff := h.offTick
  have hstep := h.chaseStep (t := t)
  obtain ⟨⟨d, rfl⟩, hsr, hsignal, hbus⟩ := h
  rcases normalTick_cases ht with
    ⟨hheld, rfl⟩ | ⟨hheld, hon, rfl⟩ | ⟨hheld, hon, hstop, rfl⟩ | ⟨hheld, hon, hstop, hcnt, rfl⟩ | ⟨hheld, hon, hstop, hcnt, hchase⟩
  · exact ⟨_, normalTick_of_held (s := withHidden d s) hheld, hmanual⟩
  · exact ⟨_, normalTick_of_off (s := withHidden d s) hheld hon, hoff⟩
  · exact ⟨_, normalTick_of_stopped (s := withHidden d t) hheld hon hstop, ⟨d, rfl⟩, hsr, hsignal, hbus⟩
  · exact ⟨_, normalTick_of_counting (s := withHidden d s) hheld hon hstop hcnt, ⟨d, rfl⟩, hsr, hsignal, hbus⟩
  · rw [normalTick_of_due (s := withHidden d s) hheld hon hstop hcnt]
    exact hstep hchase

/-- SpecialTick reads SIG_IDX and SIG_CNT while a signal is active, where twins agree on them. -/
theorem Twin.specialTick (h : Twin p q s u) (hs : s.sigId ≠ 0#8) {b : Bool} (ht : specialTick s = .next (t, b)) :
    ∃ v, specialTick u = .next (v, b) ∧ Twin p q t v := by
  have hshow := h.signalShow
  obtain ⟨⟨d, rfl⟩, hsr, ⟨_, h0⟩ | ⟨hidx, hcnt⟩, hbus⟩ := h
  · exact absurd h0 hs
  rcases specialTick_cases ht with
    ⟨hlt, ⟨⟩⟩ | ⟨hlt, e, hread, ⟨he, ⟨⟩⟩ | ⟨he, hmode, e1, hread1, ⟨⟩⟩ | ⟨he, hmode, ⟨⟩⟩⟩
  · rw [← hcnt] at hlt
    exact ⟨_, specialTick_of_counting hlt, ⟨{ d with sigCnt := _ }, rfl⟩, hsr, .inr ⟨hidx, by rw [hcnt]⟩, hbus⟩
  all_goals rw [← hcnt] at hlt; rw [← hidx] at hread
  · rw [← hidx]
    exact ⟨_, specialTick_of_data (s := withHidden d s) hlt hread he, hshow e _⟩
  · exact ⟨_, specialTick_of_loop (s := withHidden d s) hlt hread he hmode hread1, hshow e1 _⟩
  · exact ⟨_, specialTick_of_oneshot (s := withHidden d s) hlt hread he hmode, ⟨d, rfl⟩, hsr, .inr ⟨hidx, hcnt⟩, hbus⟩

/-- Twins take the same TICK. -/
theorem Twin.tick (h : Twin p q s u) (ht : tick s = .next t) : TwinNext p q t (tick u) := by
  have hcounted : Twin p q (counted s) (counted u) := by
    obtain ⟨⟨d, rfl⟩, hsr, hsignal, hbus⟩ := h
    exact ⟨⟨d, rfl⟩, hsr, hsignal, hbus⟩
  have hguard : u.guard = s.guard := by obtain ⟨⟨d, rfl⟩, _⟩ := h; rfl
  have hid : u.sigId = s.sigId := by obtain ⟨⟨d, rfl⟩, _⟩ := h; rfl
  rcases tick_cases ht with ⟨hg, rfl⟩ | ⟨hg, hs, hspecial⟩ | ⟨hg, hs, x, hspecial, hnormal⟩ | ⟨hg, hs, hnormal⟩
  · exact ⟨u, by simp [Machine.tick, hguard, hg], h⟩
  · obtain ⟨v, hv, htwin⟩ := hcounted.specialTick hs hspecial
    exact ⟨v, by simp [tick_eq_specialTick (hguard.trans hg) (hid ▸ hs), hv], htwin⟩
  · obtain ⟨y, hy, htwin⟩ := hcounted.specialTick hs hspecial
    obtain ⟨v, hv, htwin⟩ := htwin.normalTick hnormal
    exact ⟨v, by simp [tick_eq_specialTick (hguard.trans hg) (hid ▸ hs), hy, hv], htwin⟩
  · rw [tick_eq_normalTick (hguard.trans hg) (hid.trans hs)]
    exact hcounted.normalTick hnormal

/-- Twins take the same step of FG. -/
theorem Twin.fgStep (h : Twin p q s u) (ht : fgStep s = .next t) : TwinNext p q t (fgStep u) := by
  have hphase : u.phase = s.phase := by obtain ⟨⟨d, rfl⟩, _⟩ := h; rfl
  cases hp : s.phase with
  | idle =>
    simp only [Machine.fgStep, hphase, hp] at ht ⊢
    cases ht
    exact ⟨_, rfl, h.issueNext⟩
  | begun w =>
    simp only [Machine.fgStep, hphase, hp] at ht ⊢
    rcases applyCommand_cases ht with ⟨i, x, hi, hx, rfl⟩ | ⟨why, hwhy, rfl⟩
    · obtain ⟨v, hv, ⟨d, rfl⟩, hsr, hsignal, hbus⟩ := h.exec hx
      exact ⟨_, applyCommand_of_ok hi hv, ⟨d, rfl⟩, hsr, hsignal, hbus⟩
    · obtain ⟨⟨d, rfl⟩, hsr, hsignal, hbus⟩ := h
      exact ⟨_, applyCommand_of_error hwhy, ⟨d, rfl⟩, hsr, hsignal, hbus⟩
  | applied =>
    simp only [Machine.fgStep, hphase, hp] at ht ⊢
    cases ht
    obtain ⟨⟨d, rfl⟩, hsr, hsignal, hbus⟩ := h
    exact ⟨_, rfl, ⟨d, rfl⟩, hsr, hsignal, hbus⟩

/-- Reset gives twins the same registers but for SR (R43, R260). -/
theorem Twin.resetBlock (h : Twin p q s u) : Twin p q (resetBlock s) (resetBlock u) := by
  obtain ⟨⟨d, rfl⟩, hsr, _, _⟩ := h
  exact ⟨⟨{ d with sigIdx := 0#8, sigCnt := 0#16, lastBus := 0#6 }, rfl⟩, hsr, .inr ⟨rfl, rfl⟩, .inr rfl⟩

/-- The simulation: twins make the same step and are twins after it. -/
theorem Twin.step (h : Twin p q s u) (ht : step s = .next t) : TwinNext p q t (step u) := by
  obtain ⟨hwf, hmove⟩ := step_cases ht
  rw [step_eq (h.cfg_eq ▸ hwf), h.nextAgent_eq]
  rcases hmove with ⟨ha, hmove⟩ | ⟨ha, hmove⟩ | ⟨ha, rfl⟩ <;> rw [ha]
  · exact h.choiceUsed.fgStep hmove
  · exact h.choiceUsed.tick hmove
  · exact ⟨_, rfl, h.choiceUsed.resetBlock⟩

end Twins

/-- Settles O34: a state and the same state with other SR contents are twins, and their steps are twins again. -/
theorem registerContentsNeverReachTheBlock : Obligations.RegisterContentsNeverReachTheBlock := by
  intro s t a b hstep
  have htwin : Twin True False s { s with srShift := a, srOut := b } :=
    ⟨⟨⟨a, b, s.sigIdx, s.sigCnt, s.lastBus⟩, rfl⟩, .inl trivial, .inr ⟨rfl, rfl⟩, .inr rfl⟩
  obtain ⟨v, hv, ⟨d, rfl⟩, _, ⟨⟨⟩, _⟩ | ⟨hidx, hcnt⟩, ⟨⟨⟩, _⟩ | hbus⟩ := htwin.step hstep
  exact ⟨d.srShift, d.srOut, by rw [hv, ← hidx, ← hcnt, ← hbus]; rfl⟩

/-- States that U14 does not tell apart are twins. -/
theorem twin_of_hideUnread_eq {s u : State} (h : hideUnread s = hideUnread u) : Twin False True s u := by
  obtain ⟨d, rfl⟩ : ∃ d, u = withHidden d s :=
    ⟨⟨u.srShift, u.srOut, u.sigIdx, u.sigCnt, u.lastBus⟩, calc
      u = withHidden _ (hideUnread u) := rfl
      _ = withHidden _ (hideUnread s) := by rw [h]
      _ = withHidden _ s := rfl⟩
  have hshift := congrArg State.srShift h
  have hout := congrArg State.srOut h
  refine ⟨⟨d, rfl⟩, .inr ⟨hshift.symm, hout.symm⟩, ?_, ?_⟩
  · have hidx := congrArg State.sigIdx h
    have hcnt := congrArg State.sigCnt h
    by_cases h0 : s.sigId = 0#8
    · exact .inl ⟨trivial, h0⟩
    · simp only [hideUnread, withHidden, h0, if_false] at hidx hcnt
      exact .inr ⟨hidx.symm, hcnt.symm⟩
  · have hbus := congrArg State.lastBus h
    cases hvalid : s.lastValid with
    | false => exact .inl ⟨trivial, rfl⟩
    | true =>
      simp only [hideUnread, withHidden, hvalid, if_true] at hbus
      exact .inr hbus.symm

/-- Twins of that kind look the same once the unread registers are hidden. -/
theorem Twin.hideUnread_eq {s u : State} (h : Twin False True s u) : hideUnread s = hideUnread u := by
  obtain ⟨⟨d, rfl⟩, ⟨⟨⟩⟩ | ⟨hshift, hout⟩, hsignal, hbus⟩ := h
  simp only [withHidden, true_and] at hshift hout hsignal hbus
  have hidx : (if s.sigId = 0#8 then 0#8 else d.sigIdx) = if s.sigId = 0#8 then 0#8 else s.sigIdx := by
    rcases hsignal with h0 | ⟨hidx, _⟩ <;> simp [*]
  have hcnt : (if s.sigId = 0#8 then 0#16 else d.sigCnt) = if s.sigId = 0#8 then 0#16 else s.sigCnt := by
    rcases hsignal with h0 | ⟨_, hcnt⟩ <;> simp [*]
  have hlast : (if s.lastValid then d.lastBus else 0#6) = if s.lastValid then s.lastBus else 0#6 := by
    rcases hbus with hinvalid | hbus <;> simp [*]
  simp only [hideUnread, withHidden, hshift, hout, hidx, hcnt, hlast]

/-- Settles O60: states that differ in unread registers only are twins, their steps are twins again, and twins show the same. -/
theorem unreadRegistersAreUnobservable : Obligations.UnreadRegistersAreUnobservable := by
  intro s u t v hhide hs hu
  obtain ⟨w, hw, htwin⟩ := (twin_of_hideUnread_eq hhide).step hs
  cases hu.symm.trans hw
  have hsame := htwin.hideUnread_eq
  obtain ⟨⟨d, rfl⟩, ⟨⟨⟩⟩ | ⟨_, hout⟩, _⟩ := htwin
  exact ⟨hsame, rfl, rfl, hout.symm⟩

end Sys2Proof.Machine

namespace Sys2Proof.Machine

/-! ## The configuration through a step (R45, R71) -/

/-- A command leaves the configuration. -/
theorem ExecEffect.cfg_eq {s t : State} {i : Instr} (h : ExecEffect s i t) : t.cfg = s.cfg := by
  cases h <;> rfl

/-- A TICK leaves the configuration: it reads the tables and writes none (R54, R59). -/
theorem TickEffect.cfg_eq {s t : State} (h : TickEffect s t) : t.cfg = s.cfg := by
  rw [h.keeps]

/-- FG's issuing leaves the configuration. -/
theorem issueNext_cfg (s : State) : (issueNext s).cfg = s.cfg := by
  obtain ⟨_, _, _, _, h, _⟩ := issueNext_keeps s
  rw [h]

/-- Every step leaves the configuration, whichever agent makes it. -/
theorem step_cfg {s t : State} (h : step s = .next t) : t.cfg = s.cfg := by
  obtain ⟨_, r, k, hmove⟩ := step_move h
  cases hmove with
  | issue => exact issueNext_cfg _
  | apply _ he => exact he.cfg_eq
  | applyIllegal => rfl
  | finish => rfl
  | tick _ ht => exact (tick_effect ht).cfg_eq
  | reset => rfl

/-- Settles O57: a step leaves the configuration, which is all that ChaseRead and SigRead read. -/
theorem tablesNeverChange : Obligations.TablesNeverChange := by
  intro s t hstep
  have hcfg := step_cfg hstep
  exact ⟨hcfg, fun n i => by rw [hcfg], fun n i => by rw [hcfg]⟩

/-! ## TICK strobes inside the phases of a command (R130, R170) -/

/-- BEGIN of the next word of the queue (R130). -/
theorem fgStep_of_word {s : State} {w : Word} {q : List FgAction} (hphase : s.phase = .idle) (hexp : s.expansion = [])
    (hqueue : s.queue = .word w :: q) : fgStep s = .next (beginCommand w { s with queue := q }) := by
  rw [← issueNext_of_word hexp hqueue]
  simp [fgStep, hphase]

/-- APPLY of the word begun (R130). -/
theorem fgStep_of_begun {s : State} {w : Word} (hphase : s.phase = .begun w) : fgStep s = applyCommand w s := by
  simp [fgStep, hphase]

/-- END of the command applied (R130). -/
theorem fgStep_of_applied {s : State} (hphase : s.phase = .applied) : fgStep s = .next (endCommand s) := by
  simp [fgStep, hphase]

/-- The step of an agent that the schedule names. -/
theorem step_of_sched {s : State} {a : Agent} {r : List Agent} (hwf : s.cfg.wellFormed = true) :
    step { s with sched := a :: r } = agentStep a { s with sched := r } :=
  step_eq hwf

/-- Any number of scheduled TICK strobes that find GUARD = 1 only use up their places in the schedule (R170). -/
theorem runSteps_guarded_ticks {s : State} (hwf : s.cfg.wellFormed = true) (hguard : s.guard = true) (n k : Nat)
    (r : List Agent) :
    runSteps (n + k) { s with sched := List.replicate n .tmr ++ r } = runSteps k { s with sched := r } := by
  induction n with
  | zero => rw [Nat.zero_add]; rfl
  | succ n ih =>
    have hdrop : agentStep .tmr { s with sched := List.replicate n .tmr ++ r } =
        .next { s with sched := List.replicate n .tmr ++ r } := if_pos hguard
    rw [Nat.succ_add, runSteps_succ, List.replicate_succ, List.cons_append, step_of_sched hwf, hdrop, andThen_next, ih]

/-- A command reads and writes no schedule: it completes under every schedule, and alike. -/
theorem exec_with_sched (i : Instr) (s : State) :
    ∃ u, exec i s = .next u ∧ ∀ r, exec i { s with sched := r } = .next { u with sched := r } := by
  cases i with
  | nop => exact ⟨_, rfl, fun _ => rfl⟩
  | setspeed x => exact ⟨_, rfl, fun _ => rfl⟩
  | setseq n =>
    by_cases hn : n.toNat < s.cfg.nchase
    · exact ⟨_, if_pos hn, fun _ => if_pos hn⟩
    · exact ⟨_, if_neg hn, fun _ => if_neg hn⟩
  | setpat p => exact ⟨_, rfl, fun _ => rfl⟩
  | clrpat =>
    by_cases hheld : s.held = true
    · exact ⟨_, if_pos hheld, fun _ => if_pos hheld⟩
    · exact ⟨_, if_neg hheld, fun _ => if_neg hheld⟩
  | signal i =>
    by_cases h0 : i = 0#8
    · by_cases hid : s.sigId ≠ 0#8
      · exact ⟨_, (if_pos h0).trans (if_pos hid), fun _ => (if_pos h0).trans (if_pos hid)⟩
      · exact ⟨_, (if_pos h0).trans (if_neg hid), fun _ => (if_pos h0).trans (if_neg hid)⟩
    · by_cases hle : i.toNat ≤ s.cfg.nsig
      · exact ⟨_, (if_neg h0).trans (if_pos hle), fun _ => (if_neg h0).trans (if_pos hle)⟩
      · exact ⟨_, (if_neg h0).trans (if_neg hle), fun _ => (if_neg h0).trans (if_neg hle)⟩
  | turnOn =>
    by_cases hon : s.chaseOn = true
    · exact ⟨_, if_pos hon, fun _ => if_pos hon⟩
    · exact ⟨_, if_neg hon, fun _ => if_neg hon⟩
  | turnOff =>
    by_cases hon : s.chaseOn = true
    · exact ⟨_, if_pos hon, fun _ => if_pos hon⟩
    · exact ⟨_, if_neg hon, fun _ => if_neg hon⟩
  | stop b => exact ⟨_, rfl, fun _ => rfl⟩

/-- APPLY of any word completes, alike under every schedule, and leaves GUARD and the configuration (R130, R142). -/
theorem applyCommand_with_sched (w : Word) (s : State) :
    ∃ u : State, u.guard = s.guard ∧ u.cfg = s.cfg ∧ u.phase = .applied ∧
      ∀ r, applyCommand w { s with sched := r } = .next { u with sched := r } := by
  cases hw : decode w with
  | ok i =>
    obtain ⟨u, hu, hsched⟩ := exec_with_sched i s
    have he := exec_effect hu
    exact ⟨{ u with phase := .applied }, he.guard_eq, he.cfg_eq, rfl, fun r => applyCommand_of_ok hw (hsched r)⟩
  | error why =>
    exact ⟨{ s with phase := .applied }, rfl, rfl, rfl, fun r => applyCommand_of_error hw⟩

/-- END, after any number of TICK strobes since APPLY (R130, R170). -/
theorem runSteps_end {s : State} (hwf : s.cfg.wellFormed = true) (hguard : s.guard = true) (hphase : s.phase = .applied)
    (b : Nat) (rest : List Agent) :
    runSteps (b + 1) { s with sched := List.replicate b .tmr ++ .fg :: rest } =
      .next { endCommand s with sched := rest } := by
  have hend : agentStep .fg { s with sched := rest } = .next { endCommand s with sched := rest } :=
    fgStep_of_applied (s := { s with sched := rest }) hphase
  rw [runSteps_guarded_ticks hwf hguard, runSteps_succ, step_of_sched hwf, hend, andThen_next, runSteps_zero]

/-- APPLY and END, after any numbers of TICK strobes since BEGIN and since APPLY: the state they end in depends on neither number. -/
theorem runSteps_apply_end {s : State} {w : Word} (hwf : s.cfg.wellFormed = true) (hguard : s.guard = true)
    (hphase : s.phase = .begun w) :
    ∃ t : State, ∀ (a b : Nat) (rest : List Agent),
      runSteps (a + (b + 2)) { s with sched := List.replicate a .tmr ++ .fg :: (List.replicate b .tmr ++ .fg :: rest) } =
        .next { t with sched := rest } := by
  obtain ⟨u, hguardu, hcfgu, hphaseu, happly⟩ := applyCommand_with_sched w s
  have hstep (r : List Agent) : agentStep .fg { s with sched := r } = .next { u with sched := r } :=
    (fgStep_of_begun (s := { s with sched := r }) hphase).trans (happly r)
  refine ⟨endCommand u, fun a b rest => ?_⟩
  rw [runSteps_guarded_ticks hwf hguard, runSteps_succ, step_of_sched hwf, hstep, andThen_next]
  exact runSteps_end (hcfgu ▸ hwf) (hguardu.trans hguard) hphaseu b rest

/-- A word of the queue always completes its three phases, and in one and the same state whatever TICK strobes fall between them and
whatever is scheduled after them. -/
theorem runSteps_command_with_ticks {s : State} {w : Word} {q : List FgAction} (hwf : s.cfg.wellFormed = true)
    (hphase : s.phase = .idle) (hexp : s.expansion = []) (hqueue : s.queue = .word w :: q) :
    ∃ t : State, ∀ (a b : Nat) (rest : List Agent),
      runSteps (a + b + 3)
          { s with sched := .fg :: (List.replicate a .tmr ++ .fg :: (List.replicate b .tmr ++ .fg :: rest)) } =
        .next { t with sched := rest } := by
  have hbegin (r : List Agent) :
      agentStep .fg { s with sched := r } = .next { beginCommand w { s with queue := q } with sched := r } :=
    fgStep_of_word (s := { s with sched := r }) hphase hexp hqueue
  obtain ⟨t, ht⟩ := runSteps_apply_end (s := beginCommand w { s with queue := q }) hwf rfl rfl
  refine ⟨t, fun a b rest => ?_⟩
  rw [runSteps_succ, step_of_sched hwf, hbegin, andThen_next, Nat.add_assoc]
  exact ht a b rest

/-- Settles O22: both sides are that one run, with `a` and `b` strobes and with none. -/
theorem ticksInTheGuardWindowAreLost : Obligations.TicksInTheGuardWindowAreLost := by
  intro s w q rest a b hwf hphase hexp hqueue
  obtain ⟨t, ht⟩ := runSteps_command_with_ticks hwf hphase hexp hqueue
  exact (ht a b rest).trans (ht 0 0 rest).symm

end Sys2Proof.Machine

namespace Sys2Proof

open Machine Laws

/-! ## Encoding: the fields of a word and the rows it selects (R81 to R84) -/

/-- A word is its three fields (R81). -/
theorem word_eq_iff_fields (w v : Word) :
    w = v ↔ opField w = opField v ∧ rsvField w = rsvField v ∧ xField w = xField v := by
  have fields_append (u : Word) : opField u ++ rsvField u ++ xField u = u := by
    have hhigh : opField u ++ rsvField u = u.extractLsb' 8 8 := BitVec.extractLsb'_append_extractLsb'_eq_extractLsb' rfl
    have hall : u.extractLsb' 8 8 ++ xField u = u.extractLsb' 0 16 := BitVec.extractLsb'_append_extractLsb'_eq_extractLsb' rfl
    rw [hhigh, hall, BitVec.extractLsb'_eq_self]
  refine ⟨fun h => h ▸ ⟨rfl, rfl, rfl⟩, fun ⟨hop, hrsv, hx⟩ => ?_⟩
  rw [← fields_append w, ← fields_append v, hop, hrsv, hx]

theorem opField_and (w m : Word) : opField (w &&& m) = opField w &&& opField m := BitVec.extractLsb'_and

theorem rsvField_and (w m : Word) : rsvField (w &&& m) = rsvField w &&& rsvField m := BitVec.extractLsb'_and

theorem xField_and (w m : Word) : xField (w &&& m) = xField w &&& xField m := BitVec.extractLsb'_and

/-- Selecting a row, field by field. -/
theorem and_mask_eq_iff_fields (w m p : Word) :
    w &&& m = p ↔ opField w &&& opField m = opField p ∧ rsvField w &&& rsvField m = rsvField p ∧
      xField w &&& xField m = xField p := by
  rw [word_eq_iff_fields, opField_and, rsvField_and, xField_and]

/-- Every mask covers OP. -/
theorem opField_mask_of_mem : ∀ r ∈ opcodeMap, opField r.1.mask = BitVec.allOnes 4 := by decide

/-- Each row has an OP of its own. -/
theorem opField_rows_nodup : (opcodeMap.map fun r => opField r.1.pat).Nodup := by decide

/-- Every mask covers OP, so a word's OP is that of any row it selects. -/
theorem opField_of_selects {r : Row × (Word → Instr)} {w : Word} (hr : r ∈ opcodeMap) (hw : w &&& r.1.mask = r.1.pat) :
    opField w = opField r.1.pat := by
  rw [← hw, opField_and, opField_mask_of_mem r hr, BitVec.and_allOnes]

/-- The rows do not overlap: each has an OP of its own (R83). -/
theorem row_eq_of_selects {r q : Row × (Word → Instr)} {w : Word} (hr : r ∈ opcodeMap) (hq : q ∈ opcodeMap)
    (hrw : w &&& r.1.mask = r.1.pat) (hqw : w &&& q.1.mask = q.1.pat) : r = q :=
  List.inj_on_of_nodup_map opField_rows_nodup hr hq ((opField_of_selects hr hrw).symm.trans (opField_of_selects hq hqw))

/-- Settles O3: the table by evaluation, and the rows by their different OP fields. -/
theorem opcodeRowsDoNotOverlap : Obligations.OpcodeRowsDoNotOverlap :=
  ⟨rfl, fun _ _ hr _ hq hrw hqw => congrArg (·.1.mnemonic) (row_eq_of_selects hr hq hrw hqw)⟩

/-! ## The decoder (R84) -/

/-- A word decodes to a command exactly when it selects a row that reads that command from it. -/
theorem decode_eq_ok_iff {w : Word} {i : Instr} :
    decode w = .ok i ↔ ∃ r ∈ opcodeMap, w &&& r.1.mask = r.1.pat ∧ r.2 w = i := by
  unfold decode
  cases hfind : opcodeMap.find? (fun r => r.1.selects w) with
  | some q =>
    have hq : q ∈ opcodeMap := List.mem_of_find?_eq_some hfind
    have hqw : w &&& q.1.mask = q.1.pat := by simpa [Row.selects] using List.find?_some hfind
    refine ⟨fun h => ⟨q, hq, hqw, Except.ok.inj h⟩, fun ⟨r, hr, hrw, hi⟩ => ?_⟩
    rw [← hi, row_eq_of_selects hr hq hrw hqw]
  | none =>
    refine ⟨fun h => (nomatch h), fun ⟨r, hr, hrw, _⟩ => ?_⟩
    exact absurd (beq_iff_eq.mpr hrw) (List.find?_eq_none.mp hfind r hr)

/-- A word decodes as ILLEGAL exactly when it selects no row. -/
theorem decode_eq_error_iff {w : Word} :
    (∃ why, decode w = .error why) ↔ ∀ r ∈ opcodeMap, w &&& r.1.mask ≠ r.1.pat := by
  constructor
  · rintro ⟨why, hwhy⟩ r hr hrw
    exact nomatch hwhy.symm.trans (decode_eq_ok_iff.mpr ⟨r, hr, hrw, rfl⟩)
  · intro hnone
    cases hw : decode w with
    | error why => exact ⟨why, rfl⟩
    | ok i =>
      obtain ⟨r, hr, hrw, _⟩ := decode_eq_ok_iff.mp hw
      exact absurd hrw (hnone r hr)

/-! ## The encoder (R82, R83) -/

/-- An operand in the low bits of a word, as a bitwise or. -/
theorem append_eq_or_setWidth {m n : ℕ} (h : BitVec m) (x : BitVec n) :
    h ++ x = (h ++ 0#n) ||| x.setWidth (m + n) := by
  ext j hj
  simp only [BitVec.getElem_append, BitVec.getElem_or, BitVec.getElem_setWidth]
  split
  · simp_all
  · simp_all [BitVec.getLsbD_of_ge x j (by omega)]

/-- The low `k` bits of a word, widened again, are the word under the mask of its low `k` bits. -/
theorem setWidth_extractLsb'_zero {n : ℕ} (k : ℕ) (w : BitVec n) :
    (w.extractLsb' 0 k).setWidth n = w &&& (BitVec.allOnes k).setWidth n := by
  ext j hj
  simp [BitVec.getLsbD_eq_getElem hj, Bool.and_comm]

theorem encode_setspeed (s : Byte) : encode (.setspeed s) = 0x1000#16 ||| s.setWidth 16 := append_eq_or_setWidth 0x10#8 s

theorem encode_setseq (n : Byte) : encode (.setseq n) = 0x2000#16 ||| n.setWidth 16 := append_eq_or_setWidth 0x20#8 n

theorem encode_setpat (p : Pattern) : encode (.setpat p) = 0x3000#16 ||| p.setWidth 16 :=
  append_eq_or_setWidth (0x30#8 ++ 0#2) p

theorem encode_signal (i : Byte) : encode (.signal i) = 0x5000#16 ||| i.setWidth 16 := append_eq_or_setWidth 0x50#8 i

theorem encode_stop (b : BitVec 1) : encode (.stop b) = 0x8000#16 ||| b.setWidth 16 :=
  append_eq_or_setWidth (0x80#8 ++ 0#7) b

/-- The command a row reads from a word encodes to the row's match with the word's operand bits, those outside the mask. -/
theorem encode_row {r : Row × (Word → Instr)} (hr : r ∈ opcodeMap) (w : Word) :
    encode (r.2 w) = r.1.pat ||| (w &&& ~~~r.1.mask) := by
  simp only [opcodeMap, List.mem_cons, List.not_mem_nil, or_false] at hr
  rcases hr with rfl | rfl | rfl | rfl | rfl | rfl | rfl | rfl | rfl
  · simp [encode]
  · rw [encode_setspeed, imm8, xField, setWidth_extractLsb'_zero]; rfl
  · rw [encode_setseq, imm8, xField, setWidth_extractLsb'_zero]; rfl
  · rw [encode_setpat, imm6, setWidth_extractLsb'_zero]; rfl
  · simp [encode]
  · rw [encode_signal, imm8, xField, setWidth_extractLsb'_zero]; rfl
  · simp [encode]
  · simp [encode]
  · rw [encode_stop, imm1, setWidth_extractLsb'_zero]; rfl

/-- Settles O2: the row the word selects fixes the bits under its mask, the operand all others. -/
theorem decodedWordIsItsEncoding : Obligations.DecodedWordIsItsEncoding := by
  intro w i hw
  obtain ⟨r, hr, hrw, rfl⟩ := decode_eq_ok_iff.mp hw
  calc encode (r.2 w)
      = r.1.pat ||| (w &&& ~~~r.1.mask) := encode_row hr w
    _ = (w &&& r.1.mask) ||| (w &&& ~~~r.1.mask) := by rw [hrw]
    _ = w := by rw [← BitVec.and_or_distrib_left, BitVec.or_not_self, BitVec.and_allOnes]

/-- The word of each command selects the row of its mnemonic; so it decodes to the command if that row reads it back. -/
theorem decode_encode_of_row {i : Instr} (hsel : Laws.EncodeSelectsRow.Statement i) {k : ℕ} (hk : k < opcodeMap.length)
    (hname : opcodeMap[k].1.mnemonic = mnemonic i) (hread : opcodeMap[k].2 (encode i) = i) : decode (encode i) = .ok i := by
  obtain ⟨r, hr, hrw, hri⟩ := hsel
  have hmnemonics : (opcodeMap.map (·.1.mnemonic)).Nodup := by decide
  obtain rfl : r = opcodeMap[k] := List.inj_on_of_nodup_map hmnemonics hr (List.getElem_mem hk) (hri.trans hname.symm)
  exact decode_eq_ok_iff.mpr ⟨_, hr, beq_iff_eq.mp hrw, hread⟩

/-- Settles O1: each command's word selects the row of its mnemonic, and that row reads the operand back. -/
theorem encodedCommandDecodesToItself : Obligations.EncodedCommandDecodesToItself := by
  intro i
  cases i with
  | nop => exact decode_encode_of_row EncodeSelectsRow.nop (k := 0) (by decide) rfl rfl
  | setspeed s =>
    exact decode_encode_of_row (EncodeSelectsRow.setspeed s) (k := 1) (by decide) rfl
      (congrArg Instr.setspeed BitVec.extractLsb'_append_eq_right)
  | setseq n =>
    exact decode_encode_of_row (EncodeSelectsRow.setseq n) (k := 2) (by decide) rfl
      (congrArg Instr.setseq BitVec.extractLsb'_append_eq_right)
  | setpat p =>
    exact decode_encode_of_row (EncodeSelectsRow.setpat p) (k := 3) (by decide) rfl
      (congrArg Instr.setpat BitVec.extractLsb'_append_eq_right)
  | clrpat => exact decode_encode_of_row EncodeSelectsRow.clrpat (k := 4) (by decide) rfl rfl
  | signal n =>
    exact decode_encode_of_row (EncodeSelectsRow.signal n) (k := 5) (by decide) rfl
      (congrArg Instr.signal BitVec.extractLsb'_append_eq_right)
  | turnOn => exact decode_encode_of_row EncodeSelectsRow.turnOn (k := 6) (by decide) rfl rfl
  | turnOff => exact decode_encode_of_row EncodeSelectsRow.turnOff (k := 7) (by decide) rfl rfl
  | stop b =>
    exact decode_encode_of_row (EncodeSelectsRow.stop b) (k := 8) (by decide) rfl
      (congrArg Instr.stop BitVec.extractLsb'_append_eq_right)

/-! ## ILLEGAL words (R84) -/

/-- The "legal when" column of R82 as a mask: X has no bit at or above `k` when the word's bits from `k` to 7 are 0. -/
theorem xField_and_high_mask_eq_zero (w : Word) {k : ℕ} (hk : k ≤ 8) :
    xField w &&& (BitVec.allOnes 8 <<< k) = 0#8 ↔ w.extractLsb' k (8 - k) = 0#(8 - k) := by
  have hmasked : xField w &&& (BitVec.allOnes 8 <<< k) = 0#8 ↔ ∀ j < 8, w.getLsbD j = true → j < k := by
    simp +contextual [BitVec.eq_of_getLsbD_eq_iff, xField, -BitVec.reduceAllOnes]
  have hpart : w.extractLsb' k (8 - k) = 0#(8 - k) ↔ ∀ j < 8 - k, w.getLsbD (k + j) = false := by
    simp +contextual [BitVec.eq_of_getLsbD_eq_iff]
  rw [hmasked, hpart]
  constructor
  · intro h j hj
    by_contra hbit
    exact absurd (h (k + j) (by omega) (by simpa using hbit)) (by omega)
  · intro h j hj hbit
    by_contra hkj
    have hclear := h (j - k) (by omega)
    rw [Nat.add_sub_of_le (by omega), hbit] at hclear
    contradiction

/-- Every mask covers RSV, and no match has a bit in RSV or in X (R83). -/
theorem row_fields_of_mem : ∀ r ∈ opcodeMap, rsvField r.1.mask = BitVec.allOnes 4 ∧ rsvField r.1.pat = 0#4 ∧
    xField r.1.pat = 0#8 := by
  decide

/-- A word selects a row exactly when OP is the row's, RSV is 0 and the operand bits under the row's mask are 0. -/
theorem selects_iff {r : Row × (Word → Instr)} (hr : r ∈ opcodeMap) (w : Word) :
    w &&& r.1.mask = r.1.pat ↔
      opField w = opField r.1.pat ∧ rsvField w = 0#4 ∧ xField w &&& xField r.1.mask = 0#8 := by
  obtain ⟨hrsv, hpatrsv, hpatx⟩ := row_fields_of_mem r hr
  rw [and_mask_eq_iff_fields, opField_mask_of_mem r hr, hrsv, hpatrsv, hpatx, BitVec.and_allOnes, BitVec.and_allOnes]

/-- A word with the OP of a row is ILLEGAL for its RSV or for its operand, since no other row has that OP. -/
theorem decode_eq_error_iff_of_op {w : Word} {op : BitVec 4} {m : Byte} {legal : Prop}
    (hrow : (op, m) ∈ opcodeMap.map fun r => (opField r.1.pat, xField r.1.mask)) (hop : opField w = op)
    (hlegal : xField w &&& m = 0#8 ↔ legal) : (∃ why, decode w = .error why) ↔ rsvField w ≠ 0#4 ∨ ¬ legal := by
  obtain ⟨q, hq, hqfields⟩ := List.mem_map.mp hrow
  obtain ⟨rfl, rfl⟩ := Prod.mk.inj hqfields
  have hmisfit : w &&& q.1.mask ≠ q.1.pat ↔ rsvField w ≠ 0#4 ∨ ¬ legal := by
    rw [ne_eq, selects_iff hq, and_iff_right hop, hlegal, Classical.not_and_iff_not_or_not]
  rw [decode_eq_error_iff, ← hmisfit]
  refine ⟨fun hnone => hnone q hq, fun hne r hr hrw => hne ?_⟩
  obtain rfl : r = q := List.inj_on_of_nodup_map opField_rows_nodup hr hq ((opField_of_selects hr hrw).symm.trans hop)
  exact hrw

/-- No row has an OP in 0x9..0xF. -/
theorem decode_eq_error_of_reserved_op {w : Word} (hop : 9#4 ≤ opField w) : ∃ why, decode w = .error why := by
  have hrows : ∀ r ∈ opcodeMap, ¬ 9#4 ≤ opField r.1.pat := by decide
  exact decode_eq_error_iff.mpr fun r hr hrw => hrows r hr (opField_of_selects hr hrw ▸ hop)

/-- Settles O4: a selected row gives the command, and ILLEGAL is decided by OP, row by row. -/
theorem illegalWordsAreExactlyThese : Obligations.IllegalWordsAreExactlyThese := by
  intro w
  refine ⟨fun r hr hrw => decode_eq_ok_iff.mpr ⟨r, hr, hrw, rfl⟩, ?_⟩
  change _ ↔ rsvField w ≠ 0#4 ∨ 9#4 ≤ opField w ∨
    ((opField w = 0#4 ∨ opField w = 4#4 ∨ opField w = 6#4 ∨ opField w = 7#4) ∧ xField w ≠ 0#8) ∨
    (opField w = 3#4 ∧ _) ∨ (opField w = 8#4 ∧ _)
  have hnone : xField w &&& 0xFF#8 = 0#8 ↔ xField w = 0#8 := xField_and_high_mask_eq_zero w (Nat.zero_le 8)
  have himm8 : xField w &&& 0x00#8 = 0#8 ↔ True := iff_true_intro BitVec.and_zero
  have himm6 : xField w &&& 0xC0#8 = 0#8 ↔ w.extractLsb' 6 2 = 0#2 := xField_and_high_mask_eq_zero w (k := 6) (by decide)
  have himm1 : xField w &&& 0xFE#8 = 0#8 ↔ w.extractLsb' 1 7 = 0#7 := xField_and_high_mask_eq_zero w (k := 1) (by decide)
  have hops : ∀ op : BitVec 4, 9#4 ≤ op ∨ op = 0#4 ∨ op = 1#4 ∨ op = 2#4 ∨ op = 3#4 ∨
      op = 4#4 ∨ op = 5#4 ∨ op = 6#4 ∨ op = 7#4 ∨ op = 8#4 := by decide
  rcases hops (opField w) with hop | hop | hop | hop | hop | hop | hop | hop | hop | hop
  · exact iff_of_true (decode_eq_error_of_reserved_op hop) (.inr (.inl hop))
  · simp [decode_eq_error_iff_of_op (by decide) hop hnone, hop]
  · simp [decode_eq_error_iff_of_op (by decide) hop himm8, hop]
  · simp [decode_eq_error_iff_of_op (by decide) hop himm8, hop]
  · simp [decode_eq_error_iff_of_op (by decide) hop himm6, hop]
  · simp [decode_eq_error_iff_of_op (by decide) hop hnone, hop]
  · simp [decode_eq_error_iff_of_op (by decide) hop himm8, hop]
  · simp [decode_eq_error_iff_of_op (by decide) hop hnone, hop]
  · simp [decode_eq_error_iff_of_op (by decide) hop hnone, hop]
  · simp [decode_eq_error_iff_of_op (by decide) hop himm1, hop]

/-- Settles O5: the legal words are those of their commands, and the others break the conditions of R84. -/
theorem workedWordsDecode : Obligations.WorkedWordsDecode := by
  refine ⟨encodedCommandDecodesToItself (.setspeed 11#8), encodedCommandDecodesToItself (.setseq 1#8),
    encodedCommandDecodesToItself (.setpat 0b101010#6), encodedCommandDecodesToItself .clrpat,
    encodedCommandDecodesToItself (.signal 5#8), encodedCommandDecodesToItself (.signal 0#8),
    encodedCommandDecodesToItself .turnOn, encodedCommandDecodesToItself .turnOff,
    encodedCommandDecodesToItself (.stop 1#1), encodedCommandDecodesToItself (.stop 0#1),
    encodedCommandDecodesToItself .nop, fun w hw => (illegalWordsAreExactlyThese w).2.mpr ?_⟩
  simp only [List.mem_cons, List.not_mem_nil, or_false] at hw
  rcases hw with rfl | rfl | rfl | rfl | rfl <;> decide

/-- Settles O6: the operands by the word of their command, the rest by evaluation. -/
theorem pseudoInstructionsExpand : Obligations.PseudoInstructionsExpand :=
  ⟨rfl, rfl, rfl, fun s => congrArg ([·, 0x6000#16, 0x4000#16]) (encode_setspeed s),
    fun m => congrArg ([·]) (encode_setpat m), fun _ => rfl⟩

end Sys2Proof

namespace Sys2Proof.Machine

/-! ## The commands of an expansion, register by register (R132, R134, R135, R137, R138) -/

/-- SETSPEED stores its operand, and 1 in place of 0 (R132). -/
theorem atLeastOne_eq (x : Byte) : atLeastOne x = if x = 0#8 then 1#8 else x := by
  by_cases hx : x = 0#8
  · subst hx; rfl
  · have hpos : x.toNat ≠ 0 := fun h0 => hx (BitVec.eq_of_toNat_eq h0)
    rw [if_neg hx, atLeastOne, Nat.max_eq_right (by omega), BitVec.ofNat_toNat, BitVec.setWidth_eq]

theorem exec_setspeed (x : Byte) (s : State) : exec (.setspeed x) s = .next { s with speed := atLeastOne x } := rfl

theorem exec_setpat (p : Pattern) (s : State) : exec (.setpat p) s = .next { s with held := true, heldVal := p } := rfl

/-- CLRPAT, register by register: CHASE_CNT and OFF_DONE restart only where a pattern was held (R135). -/
theorem exec_clrpat (s : State) :
    exec .clrpat s = .next { s with
      held := false
      chaseCnt := if s.held then 0#8 else s.chaseCnt
      offDone := if s.held then false else s.offDone } := by
  cases hheld : s.held with
  | false => exact (if_neg (by simp [hheld])).trans (congrArg Host.Outcome.next (show s = { s with held := false } by rw [← hheld]))
  | true => exact if_pos hheld

/-- ON, register by register: CHASE_CNT and OFF_DONE restart only where the chase was off (R137). -/
theorem exec_turnOn (s : State) :
    exec .turnOn s = .next { s with
      chaseOn := true
      chaseCnt := if s.chaseOn then s.chaseCnt else 0#8
      offDone := if s.chaseOn then s.offDone else false } := by
  cases hon : s.chaseOn with
  | false => exact if_neg (by simp [hon])
  | true => exact (if_pos hon).trans (congrArg Host.Outcome.next (show s = { s with chaseOn := true } by rw [← hon]))

/-- OFF, register by register: OFF_DONE stays only where the chase was off already (R138). -/
theorem exec_turnOff (s : State) :
    exec .turnOff s = .next { s with chaseOn := false, offDone := !s.chaseOn && s.offDone } := by
  cases hon : s.chaseOn with
  | false => exact (if_neg (by simp [hon])).trans (congrArg Host.Outcome.next (show s = { s with chaseOn := false } by rw [← hon]))
  | true => exact if_pos hon

/-! ## Commands in a row (R110) -/

@[simp] theorem execAll_nil (s : State) : execAll [] s = .next s := rfl

theorem execAll_cons (i : Instr) (is : List Instr) (s : State) : execAll (i :: is) s = andThen (exec i s) (execAll is) := rfl

/-- No command stops the machine (R230). -/
theorem exec_completes (i : Instr) (s : State) : ∃ u, exec i s = .next u := by
  obtain ⟨u, hu, _⟩ := exec_with_sched i s
  exact ⟨u, hu⟩

/-- Commands in a row complete, and leave the configuration. -/
theorem execAll_completes (is : List Instr) (s : State) : ∃ u, execAll is s = .next u ∧ u.cfg = s.cfg := by
  induction is generalizing s with
  | nil => exact ⟨s, rfl, rfl⟩
  | cons i is ih =>
    obtain ⟨t, ht⟩ := exec_completes i s
    obtain ⟨u, hu, hcfg⟩ := ih t
    exact ⟨u, by rw [execAll_cons, ht, andThen_next, hu], hcfg.trans (exec_effect ht).cfg_eq⟩

/-- A command other than SIGNAL leaves the registers of special playback (R41). -/
theorem ExecEffect.signal_eq {s t : State} {i : Instr} (h : ExecEffect s i t) (hi : ∀ n, i ≠ .signal n) :
    t.sigId = s.sigId ∧ t.sigIdx = s.sigIdx ∧ t.sigCnt = s.sigCnt := by
  cases h with
  | signalClear => exact absurd rfl (hi _)
  | signalStart n => exact absurd rfl (hi n)
  | _ => exact ⟨rfl, rfl, rfl⟩

/-- Commands in a row, none of them SIGNAL, leave the registers of special playback. -/
theorem execAll_signal_eq {is : List Instr} {s t : State} (h : execAll is s = .next t) (his : ∀ n, .signal n ∉ is) :
    t.sigId = s.sigId ∧ t.sigIdx = s.sigIdx ∧ t.sigCnt = s.sigCnt := by
  induction is generalizing s with
  | nil => cases h; exact ⟨rfl, rfl, rfl⟩
  | cons i is ih =>
    obtain ⟨u, hu, hrest⟩ := andThen_eq_next.mp h
    obtain ⟨hid, hidx, hcnt⟩ := (exec_effect hu).signal_eq fun n hn => his n (hn ▸ List.mem_cons_self)
    obtain ⟨hid', hidx', hcnt'⟩ := ih hrest fun n hn => his n (List.mem_cons_of_mem i hn)
    exact ⟨hid'.trans hid, hidx'.trans hidx, hcnt'.trans hcnt⟩

/-! ## The PatternCommand of a window (R103 to R106) -/

/-- The mask law of R105, on the high bits of the bytes. -/
theorem maskOf_getLsbD (win : Window) (k : Nat) (hk : k < 6) :
    (maskOf win).getLsbD (5 - k) = (win[4 + k]'(by simp only [winLen]; omega)).getLsbD 7 := by
  interval_cases k <;> simp only [maskOf, BitVec.getLsbD_append, BitVec.getLsbD_ofBool] <;> rfl

/-- The threshold of R105: a byte's high bit is set from 128 on. -/
theorem getLsbD_seven_iff (b : Byte) : b.getLsbD 7 = true ↔ 128 ≤ b.toNat := by
  simpa [BitVec.msb_eq_getLsbD_last] using congrArg (· = true) (BitVec.msb_eq_decide b)

/-- Mask bit 5 - k is 1 exactly for a byte of 128 or more (R105). -/
theorem maskOf_getLsbD_iff (win : Window) (k : Nat) (hk : k < 6) :
    (maskOf win).getLsbD (5 - k) = true ↔ 128 ≤ (win[4 + k]'(by simp only [winLen]; omega)).toNat := by
  rw [maskOf_getLsbD win k hk, getLsbD_seven_iff]

/-- The speed law of R104: the quotient fits in 8 bits. -/
theorem speedOf_toNat (v : Byte) : (speedOf v).toNat = (255 - v.toNat) / 14 + 2 := by
  rw [speedOf, BitVec.toNat_ofNat]
  omega

/-- Settles O24: one case per branch of R103, with the speed law and the mask law. -/
theorem windowGivesItsPatternCommand : Obligations.WindowGivesItsPatternCommand := by
  intro win
  refine ⟨fun hmaster => if_pos hmaster, fun hmaster hsel => ?_, fun hmaster hsel => ?_⟩
  · exact ⟨speedOf win[3], (if_neg hmaster).trans (if_pos hsel), speedOf_toNat _⟩
  · have hbit := maskOf_getLsbD_iff win
    exact ⟨maskOf win, (if_neg hmaster).trans (if_neg (not_not.mpr hsel)), hbit 0 (by decide), hbit 1 (by decide),
      hbit 2 (by decide), hbit 3 (by decide), hbit 4 (by decide), hbit 5 (by decide)⟩

/-- Settles O25: the edges by arithmetic on the speed law; a speed of at least 2 is stored as it is. -/
theorem speedLawOfTheSelector : Obligations.SpeedLawOfTheSelector := by
  intro v u hv hu
  have hvlaw := speedOf_toNat v
  have hulaw := speedOf_toNat u
  have hpos : v.toNat ≠ 0 := fun h0 => hv (BitVec.eq_of_toNat_eq h0)
  have hlt := v.isLt
  have hnonzero : speedOf v ≠ 0#8 := fun h0 => by simp [h0] at hvlaw
  refine ⟨hvlaw, by omega, by omega, by omega, by omega, by omega, fun s => ?_⟩
  rw [exec_setspeed, atLeastOne_eq, if_neg hnonzero]

/-! ## The expansions (R107 to R111) -/

/-- PAT.MASTEROFF holds pattern 0 and disables the chase (R107). -/
theorem execAll_masterOff (s : State) :
    execAll (expandPattern .masterOff) s =
      .next { s with held := true, heldVal := 0#6, chaseOn := false, offDone := !s.chaseOn && s.offDone } := by
  simp only [expandPattern, execAll_cons, exec_setpat, exec_turnOff, andThen_next, execAll_nil]

/-- The first two commands of PAT.AUTO store the speed and enable the chase (R108). -/
theorem execAll_setspeed_turnOn (v : Byte) (s : State) :
    execAll [.setspeed v, .turnOn] s = .next { s with
      speed := atLeastOne v
      chaseOn := true
      chaseCnt := if s.chaseOn then s.chaseCnt else 0#8
      offDone := if s.chaseOn then s.offDone else false } := by
  simp only [execAll_cons, exec_setspeed, exec_turnOn, andThen_next, execAll_nil]

/-- PAT.AUTO stores the speed, enables the chase and releases a held pattern; CHASE_CNT and OFF_DONE stay only where the chase was on
with nothing held (R108). -/
theorem execAll_auto (v : Byte) (s : State) :
    execAll (expandPattern (.auto v)) s = .next { s with
      speed := atLeastOne v
      chaseOn := true
      held := false
      chaseCnt := if s.chaseOn = true ∧ s.held = false then s.chaseCnt else 0#8
      offDone := if s.chaseOn = true ∧ s.held = false then s.offDone else false } := by
  simp only [expandPattern, execAll_cons, exec_setspeed, exec_turnOn, exec_clrpat, andThen_next, execAll_nil]
  cases hheld : s.held <;> simp

/-- PAT.MANUAL holds the mask (R109). -/
theorem execAll_manual (m : Pattern) (s : State) :
    execAll (expandPattern (.manual m)) s = .next { s with held := true, heldVal := m } := rfl

/-- Settles O26: one lemma per PatternCommand. -/
theorem patternCommandsSetTheirRegisters : Obligations.PatternCommandsSetTheirRegisters := by
  intro s
  refine ⟨execAll_masterOff s, fun v => ?_, fun m => execAll_manual m s⟩
  rw [execAll_auto, atLeastOne_eq]

/-- No expansion holds a SIGNAL (R111). -/
theorem signal_not_mem_expandPattern (c : PatternCommand) (n : Byte) : .signal n ∉ expandPattern c := by
  cases c <;> simp [expandPattern]

/-- Settles O28: commands other than SIGNAL leave the registers of special playback. -/
theorem dispatchNeverIssuesSignal : Obligations.DispatchNeverIssuesSignal := by
  intro win
  have hnone := signal_not_mem_expandPattern (derivePatternCommand win)
  exact ⟨hnone, fun s t ht => execAll_signal_eq ht hnone⟩

end Sys2Proof.Machine

namespace Sys2Proof.Machine

/-! ## A command does not see where FG stands (R130, R131) -/

/-- GUARD and FG's own part of the state. -/
structure FgSide where
  guard : Bool
  phase : FgPhase
  expansion : List Word
  queue : List FgAction
  sched : List Agent

/-- The state with another FG side. -/
def withFg (f : FgSide) (s : State) : State :=
  { s with guard := f.guard, phase := f.phase, expansion := f.expansion, queue := f.queue, sched := f.sched }

/-- A command reads and writes nothing of the FG side: it does the same whatever that is. -/
theorem exec_withFg (f : FgSide) {i : Instr} {s u : State} (h : exec i s = .next u) :
    exec i (withFg f s) = .next (withFg f u) := by
  cases i with
  | nop => cases h; rfl
  | setspeed x => cases h; rfl
  | setseq n =>
    simp only [exec, execSetseq] at h ⊢
    split at h <;> cases h
    next hn => exact if_pos hn
    next hn => exact if_neg hn
  | setpat p => cases h; rfl
  | clrpat => rw [exec_clrpat] at h ⊢; cases h; rfl
  | signal n =>
    simp only [exec, execSignal] at h ⊢
    split at h
    next h0 =>
      split at h <;> cases h
      next hid => exact (if_pos h0).trans (if_pos hid)
      next hid => exact (if_pos h0).trans (if_neg hid)
    next h0 =>
      split at h <;> cases h
      next hle => exact (if_neg h0).trans (if_pos hle)
      next hle => exact (if_neg h0).trans (if_neg hle)
  | turnOn => rw [exec_turnOn] at h ⊢; cases h; rfl
  | turnOff => rw [exec_turnOff] at h ⊢; cases h; rfl
  | stop b => cases h; rfl

/-- Commands in a row do the same whatever the FG side is. -/
theorem execAll_withFg (f : FgSide) {is : List Instr} {s u : State} (h : execAll is s = .next u) :
    execAll is (withFg f s) = .next (withFg f u) := by
  induction is generalizing s with
  | nil => cases h; rfl
  | cons i is ih =>
    obtain ⟨t, ht, hrest⟩ := andThen_eq_next.mp h
    rw [execAll_cons, exec_withFg f ht, andThen_next, ih hrest]

/-! ## The three FG steps of each word of an expansion (R110, R130) -/

section Expansion

variable {s u : State} {i : Instr} {is : List Instr} {q : List FgAction} {r : List Agent}

/-- FG is idle with GUARD = 0, the commands `is` are left of its expansion, and the queue `q` behind them. -/
def expanding (is : List Instr) (q : List FgAction) (r : List Agent) (s : State) : State :=
  withFg ⟨false, .idle, is.map encode, q, r⟩ s

/-- The word of command `i` is begun, with the commands `is` left after it. -/
def wordBegun (i : Instr) (is : List Instr) (q : List FgAction) (r : List Agent) (s : State) : State :=
  withFg ⟨true, .begun (encode i), is.map encode, q, r⟩ s

/-- A word is applied and not ended, with the commands `is` left after it. -/
def wordApplied (is : List Instr) (q : List FgAction) (r : List Agent) (s : State) : State :=
  withFg ⟨true, .applied, is.map encode, q, r⟩ s

/-- BEGIN of the first word of an expansion. -/
theorem step_expanding (hwf : s.cfg.wellFormed = true) :
    step (expanding (i :: is) q (.fg :: r) s) = .next (wordBegun i is q r s) :=
  step_of_sched (s := expanding (i :: is) q (.fg :: r) s) hwf

/-- APPLY of a word of an expansion: the word decodes to its command, which does not see the FG side. -/
theorem step_wordBegun (hwf : s.cfg.wellFormed = true) (hu : exec i s = .next u) :
    step (wordBegun i is q (.fg :: r) s) = .next (wordApplied is q r u) := by
  have happly : applyCommand (encode i) (wordBegun i is q r s) = .next (wordApplied is q r u) :=
    applyCommand_of_ok (encodedCommandDecodesToItself i) (exec_withFg _ hu)
  exact (step_of_sched (s := wordBegun i is q (.fg :: r) s) hwf).trans happly

/-- END of a word of an expansion. -/
theorem step_wordApplied (hwf : s.cfg.wellFormed = true) :
    step (wordApplied is q (.fg :: r) s) = .next (expanding is q r s) :=
  step_of_sched (s := wordApplied is q (.fg :: r) s) hwf

/-- Three FG steps for each command of the first part of an expansion apply that part and leave the other. -/
theorem runSteps_expanding (pre post : List Instr) (n : Nat) (hwf : s.cfg.wellFormed = true)
    (hu : execAll pre s = .next u) :
    runSteps (3 * pre.length + n) (expanding (pre ++ post) q (List.replicate (3 * pre.length) .fg ++ r) s) =
      runSteps n (expanding post q r u) := by
  induction pre generalizing s with
  | nil => cases hu; simp
  | cons i pre ih =>
    obtain ⟨t, ht, hrest⟩ := andThen_eq_next.mp hu
    have hwft : t.cfg.wellFormed = true := (exec_effect ht).cfg_eq ▸ hwf
    have hcount : 3 * (i :: pre).length = 3 * pre.length + 1 + 1 + 1 := by simp; omega
    rw [hcount, show 3 * pre.length + 1 + 1 + 1 + n = 3 * pre.length + n + 1 + 1 + 1 by omega]
    simp only [List.replicate_succ, List.cons_append]
    rw [runSteps_succ, step_expanding hwf, andThen_next, runSteps_succ, step_wordBegun hwf ht, andThen_next,
      runSteps_succ, step_wordApplied hwft, andThen_next, ih hwft hrest]

/-- A dispatch at the head of the queue issues its first word exactly as an expansion under way issues its next one (log 11). -/
theorem step_of_dispatch {win : Window} (hwf : s.cfg.wellFormed = true) (hphase : s.phase = .idle) (hexp : s.expansion = [])
    (hqueue : s.queue = .dispatch win :: q) (hsched : s.sched = .fg :: r) :
    step s = step (expanding (expandPattern (derivePatternCommand win)) q (.fg :: r) s) := by
  obtain ⟨i, is, his⟩ : ∃ i is, expandPattern (derivePatternCommand win) = i :: is :=
    List.exists_cons_of_ne_nil fun hnil => dispatchWords_ne_nil win (by rw [dispatchWords, hnil]; rfl)
  obtain ⟨hagent, hchoice⟩ := choice_of_sched hsched
  have hissue := issueNext_of_dispatch (s := { s with sched := r }) (w := encode i) (ws := is.map encode) hexp hqueue
    (by rw [dispatchWords, his]; rfl)
  have hfg : fgStep { s with sched := r } = .next (issueNext { s with sched := r }) := by simp [fgStep, hphase]
  rw [his, step_expanding hwf, step_eq hwf, hagent, hchoice]
  exact hfg.trans (congrArg Host.Outcome.next hissue)

/-- So a run from a dispatch is the run from its expansion. -/
theorem runSteps_of_dispatch {win : Window} (hwf : s.cfg.wellFormed = true) (hphase : s.phase = .idle) (hexp : s.expansion = [])
    (hqueue : s.queue = .dispatch win :: q) (hsched : s.sched = List.replicate (3 * (dispatchWords win).length) .fg ++ r)
    {n : Nat} (hn : 0 < n) :
    runSteps n s = runSteps n (expanding (expandPattern (derivePatternCommand win)) q s.sched s) := by
  obtain ⟨n, rfl⟩ := Nat.exists_eq_add_of_le' hn
  have hwords : 0 < 3 * (dispatchWords win).length :=
    Nat.mul_pos (by decide) (List.length_pos_of_ne_nil (dispatchWords_ne_nil win))
  obtain ⟨k, hk⟩ := Nat.exists_eq_add_of_le' hwords
  have hfirst : s.sched = .fg :: (List.replicate k .fg ++ r) := by rw [hsched, hk, List.replicate_succ, List.cons_append]
  rw [runSteps_succ, runSteps_succ, step_of_dispatch hwf hphase hexp hqueue hfirst, ← hfirst]

/-- The guard window of the word after the first part of an expansion: the states after its BEGIN, its APPLY and its END. -/
theorem runSteps_expanding_word {pre post : List Instr} {t : State} (hwf : s.cfg.wellFormed = true)
    (hu : execAll pre s = .next u) (hwfu : u.cfg.wellFormed = true) (ht : exec i u = .next t) :
    let start := expanding (pre ++ i :: post) q (List.replicate (3 * pre.length) .fg ++ .fg :: .fg :: .fg :: r) s
    runSteps (3 * pre.length + 1) start = .next (wordBegun i post q (.fg :: .fg :: r) u) ∧
      runSteps (3 * pre.length + 2) start = .next (wordApplied post q (.fg :: r) t) ∧
      runSteps (3 * pre.length + 3) start = .next (expanding post q r t) := by
  intro start
  have hreach (n : Nat) : runSteps (3 * pre.length + n) start = runSteps n (expanding (i :: post) q (.fg :: .fg :: .fg :: r) u) :=
    runSteps_expanding pre (i :: post) n hwf hu
  have hwft : t.cfg.wellFormed = true := (exec_effect ht).cfg_eq ▸ hwfu
  refine ⟨?_, ?_, ?_⟩ <;> rw [hreach] <;>
    simp only [runSteps_succ, runSteps_zero, step_expanding hwfu, step_wordBegun hwfu ht, step_wordApplied hwft, andThen_next]

/-- Word k of an expansion has its guard window at steps 3k + 1 to 3k + 3, and leaves the words after it. -/
theorem runSteps_expanding_window {k : Nat} (hwf : s.cfg.wellFormed = true) (hi : is[k]? = some i) :
    ∃ (r₁ r₂ r₃ : List Agent) (u t : State),
      let start := expanding is q (List.replicate (3 * is.length) .fg ++ r) s
      runSteps (3 * k + 1) start = .next (wordBegun i (is.drop (k + 1)) q r₁ u) ∧
      runSteps (3 * k + 2) start = .next (wordApplied (is.drop (k + 1)) q r₂ t) ∧
      runSteps (3 * k + 3) start = .next (expanding (is.drop (k + 1)) q r₃ t) := by
  obtain ⟨hk, hget⟩ := List.getElem?_eq_some_iff.mp hi
  have hsplit : is = is.take k ++ i :: is.drop (k + 1) := by
    rw [← hget, List.cons_getElem_drop_succ, List.take_append_drop]
  have hlen : (is.take k).length = k := List.length_take_of_le hk.le
  have hsched : List.replicate (3 * is.length) Agent.fg ++ r =
      List.replicate (3 * k) .fg ++ .fg :: .fg :: .fg :: (List.replicate (3 * (is.length - (k + 1))) .fg ++ r) := by
    rw [show 3 * is.length = 3 * k + (3 * (is.length - (k + 1)) + 1 + 1 + 1) by omega]
    simp only [List.replicate_add, List.replicate_succ, List.append_assoc, List.cons_append]
  obtain ⟨u, hu, hcfg⟩ := execAll_completes (is.take k) s
  obtain ⟨t, ht⟩ := exec_completes i u
  have hword := runSteps_expanding_word (q := q) (post := is.drop (k + 1))
    (r := List.replicate (3 * (is.length - (k + 1))) .fg ++ r) hwf hu (hcfg ▸ hwf) ht
  simp only [hlen, ← hsplit, ← hsched] at hword
  exact ⟨_, _, _, u, t, hword⟩

end Expansion

/-- Settles O27: the dispatch runs as its expansion does; before its word k is begun the commands of the first k words are applied. -/
theorem dispatchIssuesItsWordsConsecutively : Obligations.DispatchIssuesItsWordsConsecutively := by
  intro s win q rest hwf hphase hexp hqueue hsched
  have hrun {n : Nat} (hn : 0 < n) := runSteps_of_dispatch hwf hphase hexp hqueue hsched hn
  have hpos := List.length_pos_of_ne_nil (dispatchWords_ne_nil win)
  rw [hsched] at hrun
  generalize his : expandPattern (derivePatternCommand win) = is at hrun
  have hwords : dispatchWords win = is.map encode := by rw [dispatchWords, his]
  simp only [hwords, List.length_map] at hrun hpos ⊢
  refine ⟨?_, fun k w hw => ?_⟩
  · obtain ⟨u, hu, _⟩ := execAll_completes is s
    have hall := runSteps_expanding (q := q) (r := rest) is [] 0 hwf hu
    rw [List.append_nil, Nat.add_zero] at hall
    have hframe : execAll is (expanding [] q rest s) = .next (expanding [] q rest u) := execAll_withFg _ hu
    rw [hrun (by omega), hall, runSteps_zero, ← hframe]
    simp only [expanding, withFg, List.map_nil, hphase, hexp]
  · obtain ⟨i, hi, rfl⟩ := Option.map_eq_some_iff.mp (List.getElem?_map (f := encode) ▸ hw)
    obtain ⟨_, _, _, u, t, hbegin, happly, hend⟩ := runSteps_expanding_window (q := q) (r := rest) hwf hi
    exact ⟨_, _, _, (hrun (by omega)).trans hbegin, rfl, rfl, (hrun (by omega)).trans happly, rfl, rfl,
      (hrun (by omega)).trans hend, rfl, rfl, List.map_drop, rfl⟩

end Sys2Proof.Machine

namespace Sys2Proof.Machine

/-! ## What a TICK shows does not depend on registers it does not consult (R112, R171) -/

/-- The chase registers that the commands of PAT.MASTEROFF and PAT.AUTO write. -/
structure ChaseSide where
  chaseOn : Bool
  offDone : Bool
  chaseCnt : BitVec 8
  speed : BitVec 8

/-- The state with other contents of those registers. -/
def withChase (d : ChaseSide) (s : State) : State :=
  { s with chaseOn := d.chaseOn, offDone := d.offDone, chaseCnt := d.chaseCnt, speed := d.speed }

/-- The chase registers of a state. -/
def chaseSide (s : State) : ChaseSide := ⟨s.chaseOn, s.offDone, s.chaseCnt, s.speed⟩

/-- The next TICK of `s` consults none of the registers in which `d` differs: a pattern is held, or `d` differs in SPEED alone, which
only arms the counter after an element is shown (R177, R181). -/
def Unseen (d : ChaseSide) (s : State) : Prop :=
  s.held = true ∨ (d.chaseOn = s.chaseOn ∧ d.offDone = s.offDone ∧ d.chaseCnt = s.chaseCnt)

/-- The answer is `t` but for its chase registers, so it shows what `t` shows. -/
def ShowsAs (t : State) (r : Result) : Prop := ∃ d, r = .next (withChase d t)

/-- A TICK of `w` completes, and has written and driven what `t` has. -/
def TickShows (w t : State) : Prop := ∃ x, tick w = .next x ∧ x.writes = t.writes ∧ x.pinLog = t.pinLog ∧ x.srOut = t.srOut

section Unseen

variable {s t : State} {d : ChaseSide}

/-- With no pattern held, only SPEED may differ unseen. -/
theorem Unseen.agrees (hd : Unseen d s) (hheld : s.held = false) :
    d.chaseOn = s.chaseOn ∧ d.offDone = s.offDone ∧ d.chaseCnt = s.chaseCnt :=
  hd.resolve_left (by simp [hheld])

theorem drivePins_withChase (es : List PinEvent) (d : ChaseSide) (s : State) :
    drivePins es (withChase d s) = withChase d (drivePins es s) := by
  induction es generalizing s with
  | nil => rfl
  | cons e es ih => exact ih (drivePin e s)

/-- A BusWrite reads and writes no chase register. -/
theorem busWrite_withChase (v : Pattern) (d : ChaseSide) (s : State) :
    busWrite v (withChase d s) = withChase d (busWrite v s) := by
  simp only [busWrite, drivePins_withChase, show (withChase d s).cfg = s.cfg from rfl]
  rfl

/-- ManualTick reads no chase register (R177). -/
theorem manualTick_withChase (d : ChaseSide) (s : State) : manualTick (withChase d s) = withChase d (manualTick s) := by
  have hwrite : busWrite (withChase d s).heldVal (withChase d s) = withChase d (busWrite s.heldVal s) :=
    busWrite_withChase s.heldVal d s
  unfold manualTick
  rw [hwrite]
  exact (apply_ite (withChase d) _ _ _).symm

/-- OffTick reads OFF_DONE alone of the chase registers (R178). -/
theorem offTick_withChase (hdone : d.offDone = s.offDone) : ∃ d', offTick (withChase d s) = withChase d' (offTick s) := by
  by_cases h : s.offDone = true
  · have hstay : offTick (withChase d s) = withChase d s := if_pos (hdone.trans h)
    exact ⟨d, by rw [hstay, offTick, if_pos h]⟩
  · have hwrite : offTick (withChase d s) = { busWrite 0#6 (withChase d s) with offDone := true } := 
      if_neg fun h' => h (hdone.symm.trans h')
    exact ⟨{ d with offDone := true }, by rw [hwrite, busWrite_withChase, offTick, if_neg h]; rfl⟩

theorem chaseShow_withChase (e : Byte) (i : BitVec 8) (d : ChaseSide) (s : State) :
    chaseShow e i (withChase d s) =
      withChase { d with chaseCnt := d.speed } (chaseShow e i s) := by
  simp only [chaseShow, busWrite_withChase]
  rfl

theorem signalShow_withChase (e : SigEntry) (i : BitVec 8) (d : ChaseSide) (s : State) :
    signalShow e i (withChase d s) = withChase d (signalShow e i s) := by
  simp only [signalShow, busWrite_withChase]
  rfl

/-- ChaseStep shows the same entry at every speed. -/
theorem chaseStep_withChase (ht : chaseStep s = .next t) (d : ChaseSide) : ShowsAs t (chaseStep (withChase d s)) := by
  rcases chaseStep_cases ht with ⟨e, hread, he, rfl⟩ | ⟨e, e0, hread, he, hread0, rfl⟩
  · exact ⟨_, (chaseStep_of_data (s := withChase d s) hread he).trans (congrArg _ (chaseShow_withChase e s.chaseIdx d s))⟩
  · exact ⟨_, (chaseStep_of_end (s := withChase d s) hread he hread0).trans (congrArg _ (chaseShow_withChase e0 0#8 d s))⟩

/-- NormalTick shows the same whatever the chase registers it does not consult. -/
theorem normalTick_withChase (hd : Unseen d s) (ht : normalTick s = .next t) : ShowsAs t (normalTick (withChase d s)) := by
  rcases normalTick_cases ht with
    ⟨hheld, rfl⟩ | ⟨hheld, hon, rfl⟩ | ⟨hheld, hon, hstop, rfl⟩ | ⟨hheld, hon, hstop, hcnt, rfl⟩ | ⟨hheld, hon, hstop, hcnt, hstep⟩
  · exact ⟨d, (normalTick_of_held (s := withChase d s) hheld).trans (congrArg _ (manualTick_withChase d s))⟩
  · obtain ⟨hdon, hddone, _⟩ := hd.agrees hheld
    obtain ⟨d', hshow⟩ := offTick_withChase hddone
    exact ⟨d', (normalTick_of_off (s := withChase d s) hheld (hdon.trans hon)).trans (congrArg _ hshow)⟩
  · obtain ⟨hdon, _, _⟩ := hd.agrees hheld
    exact ⟨d, normalTick_of_stopped (s := withChase d t) hheld (hdon.trans hon) hstop⟩
  · obtain ⟨hdon, _, hdcnt⟩ := hd.agrees hheld
    rw [← hdcnt] at hcnt
    exact ⟨{ d with chaseCnt := d.chaseCnt - 1#8 },
      normalTick_of_counting (s := withChase d s) hheld (hdon.trans hon) hstop hcnt⟩
  · obtain ⟨hdon, _, hdcnt⟩ := hd.agrees hheld
    rw [← hdcnt] at hcnt
    rw [normalTick_of_due (s := withChase d s) hheld (hdon.trans hon) hstop hcnt]
    exact chaseStep_withChase hstep d

/-- While a signal keeps control no chase register is consulted (R172 to R174). -/
theorem specialTick_withChase (ht : specialTick s = .next (t, false)) (d : ChaseSide) :
    specialTick (withChase d s) = .next (withChase d t, false) := by
  rcases specialTick_cases ht with
    ⟨hcnt, ⟨⟩⟩ | ⟨hcnt, e, hread, ⟨he, ⟨⟩⟩ | ⟨he, hmode, e1, hread1, ⟨⟩⟩ | ⟨_, _, ⟨⟩⟩⟩
  · exact specialTick_of_counting (s := withChase d s) hcnt
  · rw [specialTick_of_data (s := withChase d s) hcnt hread he, ← signalShow_withChase]
    rfl
  · rw [specialTick_of_loop (s := withChase d s) hcnt hread he hmode hread1, signalShow_withChase]

/-- A signal that ends resumes, which sets CHASE_CNT and OFF_DONE whatever they were, and so leaves unseen what was (R175, R176). -/
theorem specialTick_withChase_of_end (hd : Unseen d s) (ht : specialTick s = .next (t, true)) :
    ∃ d', specialTick (withChase d s) = .next (withChase d' t, true) ∧ Unseen d' t := by
  rcases specialTick_cases ht with ⟨_, ⟨⟩⟩ | ⟨hcnt, e, hread, ⟨_, ⟨⟩⟩ | ⟨_, _, _, _, ⟨⟩⟩ | ⟨he, hmode, ⟨⟩⟩⟩
  exact ⟨{ d with chaseCnt := 0#8, offDone := false }, specialTick_of_oneshot (s := withChase d s) hcnt hread he hmode,
    hd.imp_right fun ⟨hon, _⟩ => ⟨hon, rfl, rfl⟩⟩

/-- A TICK shows the same whatever the chase registers it does not consult. -/
theorem tick_withChase (hd : Unseen d s) (ht : tick s = .next t) : ShowsAs t (tick (withChase d s)) := by
  have hcounted : counted (withChase d s) = withChase d (counted s) := rfl
  rcases tick_cases ht with ⟨hg, rfl⟩ | ⟨hg, hs, hspecial⟩ | ⟨hg, hs, u, hspecial, hnormal⟩ | ⟨hg, hs, hnormal⟩
  · exact ⟨d, if_pos hg⟩
  · rw [tick_eq_specialTick (s := withChase d s) hg hs, hcounted, specialTick_withChase hspecial]
    exact ⟨d, rfl⟩
  · obtain ⟨d', hspecial', hd'⟩ := specialTick_withChase_of_end (s := counted s) hd hspecial
    rw [tick_eq_specialTick (s := withChase d s) hg hs, hcounted, hspecial']
    exact normalTick_withChase hd' hnormal
  · rw [tick_eq_normalTick (s := withChase d s) hg hs, hcounted]
    exact normalTick_withChase (s := counted s) hd hnormal

/-- So the TICK of a state that differs in unseen chase registers alone completes, and writes and drives the same. -/
theorem tickShows_of_unseen {w : State} (ht : tick s = .next t) (hw : w = withChase (chaseSide w) s) (hd : Unseen (chaseSide w) s) :
    TickShows w t := by
  obtain ⟨d, hx⟩ := tick_withChase hd ht
  exact ⟨withChase d t, hw ▸ hx, rfl, rfl, rfl⟩

end Unseen

/-! ## A TICK inside an expansion (R112) -/

/-- The places of a TICK in an expansion: before it, after it, or inside PAT.MASTEROFF or PAT.AUTO (R107 to R109). -/
theorem expandPattern_split {c : PatternCommand} {pre post : List Instr} (h : expandPattern c = pre ++ post) :
    pre = [] ∨ pre = expandPattern c ∨ (c = .masterOff ∧ pre = [.setpat 0#6]) ∨
      ∃ v, c = .auto v ∧ (pre = [.setspeed v] ∨ pre = [.setspeed v, .turnOn]) := by
  have hpre : pre ∈ (expandPattern c).inits := (List.mem_inits _ _).mpr ⟨post, h.symm⟩
  cases c with
  | masterOff =>
    obtain rfl | rfl | rfl : pre = [] ∨ pre = [.setpat 0#6] ∨ pre = [.setpat 0#6, .turnOff] := by
      simpa [expandPattern] using hpre
    · exact .inl rfl
    · exact .inr (.inr (.inl ⟨rfl, rfl⟩))
    · exact .inr (.inl rfl)
  | auto v =>
    obtain rfl | rfl | rfl | rfl :
        pre = [] ∨ pre = [.setspeed v] ∨ pre = [.setspeed v, .turnOn] ∨ pre = [.setspeed v, .turnOn, .clrpat] := by
      simpa [expandPattern] using hpre
    · exact .inl rfl
    · exact .inr (.inr (.inr ⟨v, rfl, .inl rfl⟩))
    · exact .inr (.inr (.inr ⟨v, rfl, .inr rfl⟩))
    · exact .inr (.inl rfl)
  | manual m =>
    obtain rfl | rfl : pre = [] ∨ pre = [.setpat m] := by simpa [expandPattern] using hpre
    · exact .inl rfl
    · exact .inr (.inl rfl)

/-- Inside PAT.MASTEROFF the held pattern 0 shows, as after it (R107). -/
theorem tickShows_masterOff_of_setpat {s u v t : State} (hu : execAll [.setpat 0#6] s = .next u)
    (hv : execAll (expandPattern .masterOff) s = .next v) (ht : tick u = .next t) : TickShows v t := by
  rw [execAll_masterOff] at hv
  cases hu
  cases hv
  exact tickShows_of_unseen ht rfl (.inl rfl)

/-- After SETSPEED the same shows as before it (R132). -/
theorem tickShows_of_setspeed {x : Byte} {s u t : State} (hu : execAll [.setspeed x] s = .next u) (ht : tick u = .next t) :
    TickShows s t := by
  cases hu
  exact tickShows_of_unseen ht rfl (.inr ⟨rfl, rfl, rfl⟩)

/-- While a pattern is held, SETSPEED and ON do not show (R38, R177). -/
theorem tickShows_of_held_of_turnOn {x : Byte} {s u t : State} (hheld : s.held = true)
    (hu : execAll [.setspeed x, .turnOn] s = .next u) (ht : tick u = .next t) : TickShows s t := by
  rw [execAll_setspeed_turnOn] at hu
  cases hu
  exact tickShows_of_unseen ht rfl (.inl hheld)

/-- With nothing held PAT.AUTO is done after ON: its CLRPAT changes nothing (R135). -/
theorem execAll_auto_of_not_held {x : Byte} {s u : State} (hheld : s.held = false)
    (hu : execAll [.setspeed x, .turnOn] s = .next u) : execAll (expandPattern (.auto x)) s = .next u := by
  rw [execAll_setspeed_turnOn] at hu
  cases hu
  rw [execAll_auto, ← hheld]
  simp [hheld]

/-- Settles O29: a TICK inside PAT.MASTEROFF shows what one after it would; inside PAT.AUTO, what one before it would, or, with nothing
held and the chase enabled, what one after it would. -/
theorem noExpansionShowsAThirdPattern : Obligations.NoExpansionShowsAThirdPattern := by
  intro c pre post s u v t _ _ hsplit hu hv ht
  rcases expandPattern_split hsplit with rfl | rfl | ⟨rfl, rfl⟩ | ⟨x, rfl, rfl | rfl⟩
  · cases hu
    exact .inl ⟨t, ht, rfl, rfl, rfl⟩
  · cases hu.symm.trans hv
    exact .inr ⟨t, ht, rfl, rfl, rfl⟩
  · exact .inr (tickShows_masterOff_of_setpat hu hv ht)
  · exact .inl (tickShows_of_setspeed hu ht)
  · cases hheld : s.held with
    | true => exact .inl (tickShows_of_held_of_turnOn hheld hu ht)
    | false =>
      cases (execAll_auto_of_not_held hheld hu).symm.trans hv
      exact .inr ⟨t, ht, rfl, rfl, rfl⟩

end Sys2Proof.Machine

namespace Sys2Proof.Machine

/-! ## The commands that test a register or their operand, as equations (R133, R136) -/

/-- SETSEQ completes in both its cases: the answer is the state with or without its writes (R133). -/
theorem exec_setseq (n : Byte) (s : State) :
    exec (.setseq n) s =
      .next (if n.toNat < s.cfg.nchase then { s with seqNum := n, chaseIdx := 0#8, chaseCnt := 0#8 } else s) :=
  (apply_ite Host.Outcome.next (n.toNat < s.cfg.nchase) _ s).symm

/-- SIGNAL 0 with no signal active (R136, D17). -/
theorem exec_signal_zero_of_inactive {s : State} (hid : s.sigId = 0#8) : exec (.signal 0#8) s = .next s :=
  if_neg (not_not.mpr hid)

/-- SIGNAL 0 clears an active signal and resumes (R136, R176). -/
theorem exec_signal_zero_of_active {s : State} (hid : s.sigId ≠ 0#8) :
    exec (.signal 0#8) s = .next (resume { s with sigId := 0#8 }) :=
  if_pos hid

/-- SIGNAL of an id in 1..NSIG arms it at step 1, whatever was active (R136). -/
theorem exec_signal_of_le {i : Byte} {s : State} (hi : i ≠ 0#8) (hle : i.toNat ≤ s.cfg.nsig) :
    exec (.signal i) s = .next { s with sigId := i, sigIdx := 1#8, sigCnt := 0#16 } :=
  (if_neg hi).trans (if_pos hle)

/-- SIGNAL of an id above NSIG (R136). -/
theorem exec_signal_of_gt {i : Byte} {s : State} (hi : i ≠ 0#8) (hgt : ¬ i.toNat ≤ s.cfg.nsig) :
    exec (.signal i) s = .next s :=
  (if_neg hi).trans (if_neg hgt)

/-! ## The phases of a command, from a schedule that names FG (R130) -/

/-- The step of the agent that the schedule of `s` names. -/
theorem step_of_sched_eq {s : State} {a : Agent} {r : List Agent} (hwf : s.cfg.wellFormed = true) (hsched : s.sched = a :: r) :
    step s = agentStep a { s with sched := r } := by
  obtain ⟨hagent, hchoice⟩ := choice_of_sched hsched
  rw [step_eq hwf, hagent, hchoice]

/-- BEGIN of the word at the head of the queue. -/
theorem step_of_word {s : State} {w : Word} {q : List FgAction} {r : List Agent} (hwf : s.cfg.wellFormed = true)
    (hphase : s.phase = .idle) (hexp : s.expansion = []) (hqueue : s.queue = .word w :: q) (hsched : s.sched = .fg :: r) :
    step s = .next { s with guard := true, phase := .begun w, queue := q, sched := r } :=
  (step_of_sched_eq hwf hsched).trans (fgStep_of_word (s := { s with sched := r }) hphase hexp hqueue)

/-- APPLY of the word begun. -/
theorem step_of_begun {s : State} {w : Word} {r : List Agent} (hwf : s.cfg.wellFormed = true) (hphase : s.phase = .begun w)
    (hsched : s.sched = .fg :: r) : step s = applyCommand w { s with sched := r } :=
  (step_of_sched_eq hwf hsched).trans (fgStep_of_begun (s := { s with sched := r }) hphase)

/-- END of the command applied. -/
theorem step_of_applied {s : State} {r : List Agent} (hwf : s.cfg.wellFormed = true) (hphase : s.phase = .applied)
    (hsched : s.sched = .fg :: r) : step s = .next { s with guard := false, phase := .idle, sched := r } :=
  (step_of_sched_eq hwf hsched).trans (fgStep_of_applied (s := { s with sched := r }) hphase)

/-- A word of the queue takes three FG steps: if its APPLY, under every schedule, leaves `u`, then END leaves `u` with GUARD = 0 and
FG idle. -/
theorem runSteps_word {s u : State} {w : Word} {q : List FgAction} {rest : List Agent} (hwf : s.cfg.wellFormed = true)
    (hphase : s.phase = .idle) (hexp : s.expansion = []) (hqueue : s.queue = .word w :: q)
    (hsched : s.sched = .fg :: .fg :: .fg :: rest) (hcfg : u.cfg = s.cfg)
    (happly : ∀ r, applyCommand w { s with guard := true, phase := .begun w, queue := q, sched := r } =
      .next { u with phase := .applied, sched := r }) :
    runSteps 3 s = .next { u with guard := false, phase := .idle, sched := rest } := by
  have hbegin := step_of_word hwf hphase hexp hqueue hsched
  have hmiddle := (step_of_begun (s := { s with guard := true, phase := .begun w, queue := q, sched := .fg :: .fg :: rest })
    hwf rfl rfl).trans (happly (.fg :: rest))
  have hend := step_of_applied (s := { u with phase := .applied, sched := .fg :: rest }) (hcfg ▸ hwf) rfl rfl
  rw [runSteps_succ, hbegin, andThen_next, runSteps_succ, hmiddle, andThen_next, runSteps_succ, hend, andThen_next, runSteps_zero]

/-- Settles O19: the three phases, with the APPLY of the decoded command or of an ILLEGAL word. -/
theorem commandTakesThreePhases : Obligations.CommandTakesThreePhases := by
  intro s w q rest hwf hphase hexp hqueue hsched
  refine ⟨step_of_word hwf hphase hexp hqueue hsched, fun i t hi ht => ?_, fun why hwhy => ?_⟩
  · obtain ⟨u, hu, hany⟩ := exec_with_sched i { s with guard := true, phase := .begun w, queue := q }
    cases ht.symm.trans (hany rest)
    exact runSteps_word hwf hphase hexp hqueue hsched (exec_effect hu).cfg_eq fun r => applyCommand_of_ok hi (hany r)
  · exact runSteps_word (u := { s with guard := true, queue := q }) hwf hphase hexp hqueue hsched rfl
      fun r => applyCommand_of_error hwhy

/-- A TICK leaves FG where it is in its command. -/
theorem tick_phase {s t : State} (h : tick s = .next t) : t.phase = s.phase := by
  rw [(tick_effect h).keeps]

/-- Settles O20: of all moves only FG's issuing leaves a word newly begun, and it takes the words of an expansion first. -/
theorem commandsNeverNest : Obligations.CommandsNeverNest := by
  constructor
  · intro s t w hstep ht hs
    obtain ⟨_, r, k, hmove⟩ := step_move hstep
    cases hmove with
    | issue ha hp => exact ⟨ha, hp⟩
    | apply => cases ht
    | applyIllegal => cases ht
    | finish => cases ht
    | tick _ htick => exact absurd ((tick_phase htick).symm.trans ht) hs
    | reset => cases ht
  · intro s w ws hwf hagent hphase hexp
    have hissue := issueNext_of_expansion (s := choiceUsed s) ((choiceUsed_expansion s).trans hexp)
    have hstep : step s = .next (issueNext (choiceUsed s)) := by
      simp [step_eq hwf, hagent, agentStep, fgStep, hphase]
    exact ⟨_, hstep.trans (congrArg _ hissue), rfl, rfl, choiceUsed_queue s⟩

/-- Settles O17: the APPLY step, and the same step of the state that `withFetchWord` makes of the word's number. -/
theorem stepAppliesTheDecodedCommand : Obligations.StepAppliesTheDecodedCommand := by
  intro s t w i rest hwf hi
  have hport : portWord 16 w.toNat = w := by simp [portWord, Nat.mod_eq_of_lt w.isLt]
  refine ⟨fun hphase hsched ht => ?_, fun ht => ?_⟩
  · rw [step_of_begun hwf hphase hsched, applyCommand_of_ok hi ht]
  · rw [State.withFetchWord, hport, step_of_begun (s := portHolds w s) (w := w) (r := s.sched) hwf rfl rfl]
    exact applyCommand_of_ok hi ht

/-- Settles O18: the APPLY step of an ILLEGAL word. -/
theorem illegalWordActsAsNop : Obligations.IllegalWordActsAsNop := by
  intro s w why rest hwf hwhy hphase hsched
  rw [step_of_begun hwf hphase hsched, applyCommand_of_error hwhy]

/-! ## SIGNAL and the TICK after it (R143, R173) -/

/-- Step 1 of a signal in 1..NSIG is there, and is a data step: END comes at index 2 or later (R60). -/
theorem sigRead_one_of_wellFormed {c : Config} (hc : c.wellFormed = true) {n : Nat} (h1 : 1 ≤ n) (hn : n ≤ c.nsig) :
    ∃ e, sigRead c n 1 = some e ∧ isEnd32 e = false := by
  obtain ⟨t, ht, hok⟩ := sigTable_of_wellFormed hc h1 hn
  simp only [sigTableOk, Bool.and_eq_true, decide_eq_true_eq] at hok
  have hbefore : 1 < t.findIdx isEnd32 := by omega
  have hlen : 1 < t.length := by omega
  exact ⟨t[1], sigRead_eq_some.mpr ⟨t, ht, List.getElem?_eq_getElem hlen⟩, by simpa using List.not_of_lt_findIdx hbefore⟩

/-- From a good state a BusWrite is the complete one of R211: its pins are idle and SR has its width. -/
theorem Good.busWrite_eq {s : State} (h : Good s) (v : Pattern) : Machine.busWrite v s = afterBusWrite v s := by
  obtain ⟨hwf, _, _, _, _, ⟨hclk, hlat, _⟩, ⟨hlen, _, _⟩⟩ := h
  obtain ⟨_, _, _, hw⟩ := ranges_of_wellFormed hwf
  exact busWrite_eq_afterBusWrite v hw hclk hlat hlen

/-- With GUARD = 0, a signal whose count has run out and a data step at its index, the TICK shows that step. -/
theorem tick_of_signal_data {s : State} {e : SigEntry} (hg : s.guard = false) (hs : s.sigId ≠ 0#8) (hcnt : ¬ 1#16 < s.sigCnt)
    (hread : sigRead s.cfg s.sigId.toNat s.sigIdx.toNat = some e) (he : isEnd32 e = false) :
    tick s = .next (signalShow e s.sigIdx (counted s)) := by
  rw [tick_eq_specialTick hg hs, specialTick_of_data (s := counted s) hcnt hread he]
  rfl

/-- SIGNAL 0 leaves no signal active, and the flags that choose among the other states (R38) as they are. -/
theorem exec_signal_zero_flags {s u : State} (hu : exec (.signal 0#8) s = .next u) :
    u.sigId = 0#8 ∧ u.held = s.held ∧ u.chaseOn = s.chaseOn ∧ u.stopped = s.stopped := by
  by_cases hid : s.sigId = 0#8
  · rw [exec_signal_zero_of_inactive hid] at hu
    cases hu
    exact ⟨hid, rfl, rfl, rfl⟩
  · rw [exec_signal_zero_of_active hid] at hu
    cases hu
    exact ⟨rfl, rfl, rfl, rfl⟩

/-- Settles O45: SIGNAL arms the signal with its count run out at step 1, which is a data step; after SIGNAL 0 the flags choose. -/
theorem signalPreemptsAtTheNextTick : Obligations.SignalPreemptsAtTheNextTick := by
  constructor
  · intro s u i hgood hguard hi hle hu
    have hgoodu : Good u := hgood.exec (exec_effect hu)
    have hpos : i.toNat ≠ 0 := fun h0 => hi (BitVec.eq_of_toNat_eq h0)
    obtain ⟨e, hread, he⟩ := sigRead_one_of_wellFormed hgood.wellFormed (n := i.toNat) (by omega) hle
    rw [exec_signal_of_le hi hle] at hu
    cases hu
    have hcnt : ¬ 1#16 < 0#16 := by decide
    have htick := tick_of_signal_data (s := { s with sigId := i, sigIdx := 1#8, sigCnt := 0#16 }) hguard hi hcnt hread he
    rw [signalShow, hgoodu.counted.busWrite_eq] at htick
    exact ⟨if_pos hi, e, hread, htick⟩
  · intro s u hu
    obtain ⟨hid, hheld, hon, hstop⟩ := exec_signal_zero_flags hu
    simp [governing, normalGoverning, hid, hheld, hon, hstop]

/-! ## The commands, one by one (R132 to R141) -/

/-- A TICK that finds GUARD = 1 is dropped (R170). -/
theorem tick_of_guard {s : State} (hguard : s.guard = true) : tick s = .next s := if_pos hguard

/-- Settles O7: NOP's word decodes to NOP, and GUARD is 1 from its BEGIN to its END. -/
theorem nopChangesNothing : Obligations.NopChangesNothing := by
  refine ⟨rfl, fun s => ⟨rfl, tick_of_guard rfl, ?_⟩⟩
  have happly := applyCommand_of_ok (s := beginCommand 0x0000#16 s) (encodedCommandDecodesToItself .nop) rfl
  exact ⟨_, happly, tick_of_guard rfl⟩

/-- Settles O8: `atLeastOne` stores 1 for 0 and any other operand as it is. -/
theorem setspeedStoresAtLeastOne : Obligations.SetspeedStoresAtLeastOne :=
  fun x s => ⟨encode_setspeed x, by rw [exec_setspeed, atLeastOne_eq]⟩

/-- Settles O9, by the equation of SETSEQ. -/
theorem setseqSelectsAndRestarts : Obligations.SetseqSelectsAndRestarts :=
  fun n s => ⟨encode_setseq n, exec_setseq n s⟩

/-- A word with SETPAT's opcode and X[7:6] = x reads x back there (R81). -/
theorem setpat_word_fields (x : BitVec 2) (p : Pattern) :
    opField (0x30#8 ++ x ++ p) = 3#4 ∧ (0x30#8 ++ x ++ p).extractLsb' 6 2 = x := by
  constructor
  · exact (BitVec.extractLsb'_append_eq_of_le (by decide)).trans (BitVec.extractLsb'_append_eq_of_le (by decide))
  · exact (BitVec.extractLsb'_append_eq_of_le (le_refl 6)).trans BitVec.extractLsb'_append_eq_right

/-- Settles O10: SETPAT's operand is legal only with X[7:6] = 0. -/
theorem setpatHoldsThePattern : Obligations.SetpatHoldsThePattern := by
  intro p s
  refine ⟨encode_setpat p, exec_setpat p s, fun x hx => ?_⟩
  obtain ⟨hop, hhigh⟩ := setpat_word_fields x p
  exact (illegalWordsAreExactlyThese _).2.mpr (.inr (.inr (.inr (.inl ⟨hop, fun h0 => hx (hhigh.symm.trans h0)⟩))))

/-- Settles O11: CLRPAT completes whether HELD is 1 or 0. -/
theorem clrpatReleasesThePattern : Obligations.ClrpatReleasesThePattern :=
  ⟨rfl, fun s => (apply_ite Host.Outcome.next (s.held = true) _ s).symm⟩

/-- Settles O12, one equation of SIGNAL per case of R136. -/
theorem signalStartsOrClears : Obligations.SignalStartsOrClears := by
  intro i s
  refine ⟨encode_signal i, ?_⟩
  by_cases hi : i = 0#8
  · subst hi
    rw [if_pos rfl]
    by_cases hid : s.sigId = 0#8
    · rw [if_pos hid, exec_signal_zero_of_inactive hid]
    · rw [if_neg hid, exec_signal_zero_of_active hid, resume]
  · rw [if_neg hi]
    by_cases hle : i.toNat ≤ s.cfg.nsig
    · rw [if_pos hle, exec_signal_of_le hi hle]
    · rw [if_neg hle, exec_signal_of_gt hi hle]

/-- Settles O13: ON completes whether the chase is on or off. -/
theorem onEnablesTheChase : Obligations.OnEnablesTheChase :=
  ⟨rfl, fun s => (apply_ite Host.Outcome.next (s.chaseOn = true) s _).symm⟩

/-- Settles O14: OFF completes whether the chase is on or off. -/
theorem offDisablesTheChase : Obligations.OffDisablesTheChase :=
  ⟨rfl, fun s => (apply_ite Host.Outcome.next (s.chaseOn = true) _ s).symm⟩

/-- Settles O15: STOPPED is the operand's one bit. -/
theorem stopStoresItsOperand : Obligations.StopStoresItsOperand :=
  fun b _ => ⟨encode_stop b, rfl⟩

end Sys2Proof.Machine

namespace Sys2Proof.Machine

/-! ## What the tables answer before and at their END (R55, R60, R62) -/

/-- An entry before the first one that satisfies `p` is there, and fails `p`. -/
theorem getElem?_of_lt_findIdx {α : Type} {p : α → Bool} {l : List α} {i : Nat} (hi : i < l.findIdx p) :
    ∃ e, l[i]? = some e ∧ p e = false :=
  ⟨l[i]'(hi.trans_le List.findIdx_le_length), List.getElem?_eq_getElem _, by simpa using List.not_of_lt_findIdx hi⟩

/-- Where some entry satisfies `p`, the first such entry does. -/
theorem getElem?_findIdx_eq_some {α : Type} {p : α → Bool} {l : List α} (h : l.findIdx p < l.length) :
    ∃ e, l[l.findIdx p]? = some e ∧ p e = true :=
  ⟨_, List.getElem?_eq_getElem h, List.findIdx_getElem⟩

/-- Every entry of a chase table before its END is there, and is a data entry. -/
theorem chaseRead_of_lt_chaseEnd {c : Config} {n i : Nat} (hi : i < chaseEnd c n) :
    ∃ e, chaseRead c n i = some e ∧ isEnd8 e = false := by
  unfold chaseEnd at hi
  obtain ⟨e, hget, he⟩ := getElem?_of_lt_findIdx hi
  cases ht : chaseTable c n with
  | none => simp [ht] at hget
  | some t => exact ⟨e, chaseRead_eq_some.mpr ⟨t, ht, by simpa [ht] using hget⟩, he⟩

/-- A chase table has its END (R55). -/
theorem chaseRead_chaseEnd {c : Config} (hc : c.wellFormed = true) {n : Nat} (hn : n < c.nchase) :
    ∃ e, chaseRead c n (chaseEnd c n) = some e ∧ isEnd8 e = true := by
  obtain ⟨t, ht, hok⟩ := chaseTable_of_wellFormed hc hn
  simp only [chaseTableOk, Bool.and_eq_true, decide_eq_true_eq] at hok
  obtain ⟨e, hget, he⟩ := getElem?_findIdx_eq_some (p := isEnd8) (l := t) (by omega)
  exact ⟨e, chaseRead_eq_some.mpr ⟨t, ht, by simpa [chaseEnd, ht] using hget⟩, he⟩

/-- Every entry of a signal table before its END is there, and is no END. -/
theorem sigRead_of_lt_sigEnd {c : Config} {n i : Nat} (hi : i < sigEnd c n) :
    ∃ e, sigRead c n i = some e ∧ isEnd32 e = false := by
  unfold sigEnd at hi
  obtain ⟨e, hget, he⟩ := getElem?_of_lt_findIdx hi
  cases ht : sigTable c n with
  | none => simp [ht] at hget
  | some t => exact ⟨e, sigRead_eq_some.mpr ⟨t, ht, by simpa [ht] using hget⟩, he⟩

/-- A signal table has its END (R60). -/
theorem sigRead_sigEnd {c : Config} (hc : c.wellFormed = true) {n : Nat} (h1 : 1 ≤ n) (hn : n ≤ c.nsig) :
    ∃ e, sigRead c n (sigEnd c n) = some e ∧ isEnd32 e = true := by
  obtain ⟨t, ht, hok⟩ := sigTable_of_wellFormed hc h1 hn
  simp only [sigTableOk, Bool.and_eq_true, decide_eq_true_eq] at hok
  obtain ⟨e, hget, he⟩ := getElem?_findIdx_eq_some (p := isEnd32) (l := t) (by omega)
  exact ⟨e, sigRead_eq_some.mpr ⟨t, ht, by simpa [sigEnd, ht] using hget⟩, he⟩

/-- The END of an active signal's table can be read. -/
theorem Good.sigRead_sigEnd {s : State} (h : Good s) (hs : s.sigId ≠ 0#8) :
    ∃ e, sigRead s.cfg s.sigId.toNat (sigEnd s.cfg s.sigId.toNat) = some e ∧ isEnd32 e = true := by
  have hpos : s.sigId.toNat ≠ 0 := fun h0 => hs (BitVec.eq_of_toNat_eq h0)
  exact Machine.sigRead_sigEnd h.wellFormed (by omega) h.signalInTable.1

/-- An active signal has a mode (R58). -/
theorem Good.sigMode_eq_some {s : State} (h : Good s) (hs : s.sigId ≠ 0#8) : ∃ m, sigMode s.cfg s.sigId.toNat = some m := by
  obtain ⟨hend, _⟩ := h.sigEnd_range hs
  obtain ⟨e, hread, _⟩ := sigRead_of_lt_sigEnd (c := s.cfg) (n := s.sigId.toNat) (i := 0) (by omega)
  exact ⟨modeOfTag e, by simp [sigMode, hread]⟩

/-! ## Several TICKs in a row -/


/-- States that each lead to the next by a TICK. -/
theorem tickTimes_of_chain {f : Nat → State} {k : Nat} (h : ∀ j < k, tick (f j) = .next (f (j + 1))) :
    tickTimes k (f 0) = .next (f k) := by
  induction k generalizing f with
  | zero => rfl
  | succ k ih =>
    rw [tickTimes_succ, h 0 (by omega), andThen_next]
    exact ih (f := fun j => f (j + 1)) fun j hj => h (j + 1) (by omega)

/-- Runs of TICKs one after the other. -/
theorem tickTimes_trans {a b : Nat} {s t u : State} (ha : tickTimes a s = .next t) (hb : tickTimes b t = .next u) :
    tickTimes (a + b) s = .next u := by
  induction a generalizing s with
  | zero =>
    cases ha
    rwa [Nat.zero_add]
  | succ a ih =>
    obtain ⟨x, hx, ha⟩ := andThen_eq_next.mp ((tickTimes_succ a s).symm.trans ha)
    rw [Nat.succ_add, tickTimes_succ, hx, andThen_next, ih ha]

/-- Any number of TICKs keep a state good. -/
theorem Good.tickTimes {k : Nat} {s t : State} (h : Good s) (ht : tickTimes k s = .next t) : Good t := by
  induction k generalizing s with
  | zero => cases ht; exact h
  | succ k ih =>
    obtain ⟨x, hx, ht⟩ := andThen_eq_next.mp ((tickTimes_succ k s).symm.trans ht)
    exact ih (h.tick hx) ht

/-- Where the next TICK only counts itself, whatever number it has, so does any number of TICKs. -/
theorem tickTimes_of_quiet {s : State} (h : ∀ n, tick { s with performed := n } = .next { s with performed := n + 1 }) (k : Nat) :
    tickTimes k s = .next { s with performed := s.performed + k } :=
  tickTimes_of_chain (f := fun j => { s with performed := s.performed + j }) fun j _ => h (s.performed + j)

/-- A counter lowered by no more than it holds does not wrap. -/
theorem toNat_sub_ofNat {w : Nat} {x : BitVec w} {j : Nat} (hj : j ≤ x.toNat) : (x - BitVec.ofNat w j).toNat = x.toNat - j := by
  have hmod : (BitVec.ofNat w j).toNat = j := by simpa using Nat.mod_eq_of_lt (hj.trans_lt x.isLt)
  rw [BitVec.toNat_sub_of_le (by rwa [BitVec.le_def, hmod]), hmod]

/-- Counting down by `j` and then by 1 is counting down by `j + 1`. -/
theorem sub_ofNat_sub_one {w : Nat} (x : BitVec w) (j : Nat) :
    x - BitVec.ofNat w j - BitVec.ofNat w 1 = x - BitVec.ofNat w (j + 1) := by
  rw [BitVec.ofNat_add, sub_sub]

/-! ## The TICK without a signal, from a good state (R177 to R179) -/

/-- A held pattern is written when it differs from the last BusWrite, or when there was none. -/
theorem Good.manualTick_eq {s : State} (h : Good s) :
    manualTick s = if s.lastValid = true ∧ s.lastBus = s.heldVal then s else afterBusWrite s.heldVal s := by
  have hdiffers : (s.lastValid = false ∨ s.lastBus ≠ s.heldVal) ↔ ¬ (s.lastValid = true ∧ s.lastBus = s.heldVal) := by
    rw [not_and_or, Bool.not_eq_true]
  simp only [manualTick, hdiffers, ite_not, h.busWrite_eq]

/-- The all-off of a chase that is off is written while OFF_DONE is 0. -/
theorem Good.offTick_eq {s : State} (h : Good s) (hdone : s.offDone = false) :
    offTick s = { afterBusWrite 0#6 s with offDone := true } := by
  simp [offTick, hdone, h.busWrite_eq]

/-- A chase that is off and has written its all-off writes nothing. -/
theorem tick_of_off_done {s : State} (hg : s.guard = false) (hs : s.sigId = 0#8) (hheld : s.held = false)
    (hon : s.chaseOn = false) (hdone : s.offDone = true) : tick s = .next (counted s) := by
  rw [tick_eq_normalTick hg hs, normalTick_of_off (s := counted s) hheld hon, offTick, if_pos (by exact hdone)]

/-- A stopped chase writes nothing (R179). -/
theorem tick_of_stopped {s : State} (hg : s.guard = false) (hs : s.sigId = 0#8) (hheld : s.held = false)
    (hon : s.chaseOn = true) (hstop : s.stopped = true) : tick s = .next (counted s) := by
  rw [tick_eq_normalTick hg hs, normalTick_of_stopped (s := counted s) hheld hon hstop]

/-! ## The chase (R179 to R181) -/

/-- ChaseRun governs, and TICKs are performed (R38, R170). -/
structure ChaseRuns (s : State) : Prop where
  guard : s.guard = false
  signal : s.sigId = 0#8
  held : s.held = false
  chaseOn : s.chaseOn = true
  stopped : s.stopped = false

/-- ChaseStep shows entry `i` next: CHASE_IDX is at that data entry, or at END with `i` the first entry (R181). -/
def ChaseNext (s : State) (i : BitVec 8) : Prop :=
  i.toNat < chaseEnd s.cfg s.seqNum.toNat ∧
    (s.chaseIdx = i ∨ (i = 0#8 ∧ s.chaseIdx.toNat = chaseEnd s.cfg s.seqNum.toNat))

/-- The state after `j` performed TICKs that only count CHASE_CNT down. -/
def chaseCounted (j : Nat) (s : State) : State :=
  { s with performed := s.performed + j, chaseCnt := s.chaseCnt - BitVec.ofNat 8 j }

theorem chaseCounted_succ (j : Nat) (s : State) :
    chaseCounted (j + 1) s = { counted (chaseCounted j s) with chaseCnt := (chaseCounted j s).chaseCnt - 1#8 } := by
  rw [chaseCounted, ← sub_ofNat_sub_one s.chaseCnt j]
  rfl

section Chase

variable {s t : State} {i : BitVec 8}

theorem Good.speedAtLeastOne (h : Good s) : SpeedAtLeastOne s := h.2.2.2.2.1

theorem chaseNext_of_lt (hlt : s.chaseIdx.toNat < chaseEnd s.cfg s.seqNum.toNat) : ChaseNext s s.chaseIdx :=
  ⟨hlt, .inl rfl⟩

/-- END lies past the first entry, so index 0 is a data entry (R55). -/
theorem Good.chaseNext_zero (h : Good s) (hidx : s.chaseIdx = 0#8 ∨ s.chaseIdx.toNat = chaseEnd s.cfg s.seqNum.toNat) :
    ChaseNext s 0#8 :=
  ⟨(chaseEnd_range h.wellFormed h.chaseInTable.1).1, hidx.imp_right fun hend => ⟨rfl, hend⟩⟩

theorem Good.exists_chaseNext (h : Good s) : ∃ i, ChaseNext s i := by
  obtain ⟨_, hidx⟩ := h.chaseInTable
  rcases hidx.lt_or_eq with hlt | hend
  · exact ⟨s.chaseIdx, chaseNext_of_lt hlt⟩
  · exact ⟨0#8, h.chaseNext_zero (.inr hend)⟩

/-- ChaseStep of a good state shows the next entry. -/
theorem chaseStep_eq_chaseShow (h : Good s) (hnext : ChaseNext s i) :
    ∃ e, chaseRead s.cfg s.seqNum.toNat i.toNat = some e ∧ chaseStep s = .next (chaseShow e i s) := by
  obtain ⟨hlt, hat⟩ := hnext
  obtain ⟨e, hread, he⟩ := chaseRead_of_lt_chaseEnd hlt
  refine ⟨e, hread, ?_⟩
  rcases hat with rfl | ⟨rfl, hend⟩
  · exact chaseStep_of_data hread he
  · obtain ⟨e', hread', he'⟩ := chaseRead_chaseEnd h.wellFormed h.chaseInTable.1
    exact chaseStep_of_end (hend ▸ hread') he' hread

/-- A running chase with CHASE_CNT above 1 counts it down (R180). -/
theorem ChaseRuns.tick_of_counting (h : ChaseRuns s) (hcnt : 1 < s.chaseCnt.toNat) :
    tick s = .next { counted s with chaseCnt := s.chaseCnt - 1#8 } := by
  rw [tick_eq_normalTick h.guard h.signal]
  exact normalTick_of_counting (s := counted s) h.held h.chaseOn h.stopped hcnt

/-- A running chase with CHASE_CNT at most 1 makes a ChaseStep (R180). -/
theorem ChaseRuns.tick_of_due (h : ChaseRuns s) (hcnt : s.chaseCnt.toNat ≤ 1) : tick s = chaseStep (counted s) := by
  rw [tick_eq_normalTick h.guard h.signal]
  exact normalTick_of_due (s := counted s) h.held h.chaseOn h.stopped (Nat.not_lt.mpr hcnt)

/-- The TICK of a good running chase with an element due shows the next entry. -/
theorem ChaseRuns.tick_eq_chaseShow (hr : ChaseRuns s) (h : Good s) (hcnt : s.chaseCnt.toNat ≤ 1) (hnext : ChaseNext s i) :
    ∃ e, chaseRead s.cfg s.seqNum.toNat i.toNat = some e ∧ tick s = .next (chaseShow e i (counted s)) := by
  rw [hr.tick_of_due hcnt]
  exact chaseStep_eq_chaseShow h.counted hnext

/-- The whole next state of that TICK: from a good state the write is a complete BusWrite (R181, R215). -/
theorem ChaseRuns.tick_eq_afterBusWrite (hr : ChaseRuns s) (h : Good s) (hcnt : s.chaseCnt.toNat ≤ 1) (hnext : ChaseNext s i) :
    ∃ e, chaseRead s.cfg s.seqNum.toNat i.toNat = some e ∧
      tick s = .next { afterBusWrite (chasePat e) (counted s) with chaseIdx := i + 1#8, chaseCnt := s.speed } := by
  obtain ⟨e, hread, hshow⟩ := hr.tick_eq_chaseShow h hcnt hnext
  rw [chaseShow, h.counted.busWrite_eq] at hshow
  exact ⟨e, hread, hshow⟩

theorem chaseRuns_chaseCounted (h : ChaseRuns s) (j : Nat) : ChaseRuns (chaseCounted j s) := { h with }

/-- TICKs that leave CHASE_CNT at 1 or more only count it down. -/
theorem ChaseRuns.tickTimes_counting (h : ChaseRuns s) {k : Nat} (hk : k ≤ s.chaseCnt.toNat - 1) :
    tickTimes k s = .next (chaseCounted k s) := by
  have hchain : ∀ j < k, tick (chaseCounted j s) = .next (chaseCounted (j + 1) s) := fun j hj => by
    have hcnt : (chaseCounted j s).chaseCnt.toNat = s.chaseCnt.toNat - j := toNat_sub_ofNat (by omega)
    rw [(chaseRuns_chaseCounted h j).tick_of_counting (by omega), chaseCounted_succ]
  simpa [chaseCounted] using tickTimes_of_chain hchain

theorem chaseRuns_chaseShow (h : ChaseRuns s) (e : Byte) (i : BitVec 8) : ChaseRuns (chaseShow e i (counted s)) := by
  obtain ⟨hguard, hsignal, hheld, hon, hstop⟩ := h
  constructor <;> simpa [chaseShow]

end Chase

/-! ## Special signals (R172 to R175) -/

/-- SpecialTick shows step `i` next: SIG_IDX is at that data step, or at the END of a LOOP signal with `i` the first step
(R172 to R174). -/
def SignalNext (s : State) (i : BitVec 8) : Prop :=
  i.toNat < sigEnd s.cfg s.sigId.toNat ∧
    (s.sigIdx = i ∨ (i = 1#8 ∧ s.sigIdx.toNat = sigEnd s.cfg s.sigId.toNat ∧ sigMode s.cfg s.sigId.toNat = some .loop))

/-- The state after `j` performed TICKs that only count SIG_CNT down. -/
def signalCounted (j : Nat) (s : State) : State :=
  { s with performed := s.performed + j, sigCnt := s.sigCnt - BitVec.ofNat 16 j }

theorem signalCounted_succ (j : Nat) (s : State) :
    signalCounted (j + 1) s = { counted (signalCounted j s) with sigCnt := (signalCounted j s).sigCnt - 1#16 } := by
  rw [signalCounted, ← sub_ofNat_sub_one s.sigCnt j]
  rfl

section Signal

variable {s : State} {i : BitVec 8}

theorem signalNext_of_lt (hlt : s.sigIdx.toNat < sigEnd s.cfg s.sigId.toNat) : SignalNext s s.sigIdx :=
  ⟨hlt, .inl rfl⟩

/-- A LOOP signal at its first step or at END shows step 1 next: END comes at index 2 or later (R60, R174). -/
theorem Good.signalNext_one (h : Good s) (hs : s.sigId ≠ 0#8) (hmode : sigMode s.cfg s.sigId.toNat = some .loop)
    (hidx : s.sigIdx = 1#8 ∨ s.sigIdx.toNat = sigEnd s.cfg s.sigId.toNat) : SignalNext s 1#8 :=
  ⟨(h.sigEnd_range hs).1, hidx.imp_right fun hend => ⟨rfl, hend, hmode⟩⟩

/-- An active signal with SIG_CNT above 1 counts it down (R172). -/
theorem tick_of_signal_counting (hg : s.guard = false) (hs : s.sigId ≠ 0#8) (hcnt : 1 < s.sigCnt.toNat) :
    tick s = .next { counted s with sigCnt := s.sigCnt - 1#16 } := by
  rw [tick_eq_specialTick hg hs, specialTick_of_counting (s := counted s) hcnt]
  rfl

/-- The TICK of a good state with a step due shows the next step. -/
theorem tick_eq_signalShow (h : Good s) (hg : s.guard = false) (hs : s.sigId ≠ 0#8) (hcnt : s.sigCnt.toNat ≤ 1)
    (hnext : SignalNext s i) :
    ∃ e, sigRead s.cfg s.sigId.toNat i.toNat = some e ∧ tick s = .next (signalShow e i (counted s)) := by
  obtain ⟨hlt, hat⟩ := hnext
  have hdue : ¬ 1#16 < s.sigCnt := Nat.not_lt.mpr hcnt
  obtain ⟨e, hread, he⟩ := sigRead_of_lt_sigEnd hlt
  refine ⟨e, hread, ?_⟩
  rcases hat with rfl | ⟨rfl, hend, hmode⟩
  · exact tick_of_signal_data hg hs hdue hread he
  · obtain ⟨e', hread', he'⟩ := h.sigRead_sigEnd hs
    rw [tick_eq_specialTick hg hs, specialTick_of_loop (s := counted s) hdue (hend ▸ hread') he' hmode hread]
    rfl

/-- The whole next state of that TICK: from a good state the write is a complete BusWrite (R173, R215). -/
theorem signalTick_eq_afterBusWrite (h : Good s) (hg : s.guard = false) (hs : s.sigId ≠ 0#8) (hcnt : s.sigCnt.toNat ≤ 1)
    (hnext : SignalNext s i) :
    ∃ e, sigRead s.cfg s.sigId.toNat i.toNat = some e ∧
      tick s = .next { afterBusWrite (sigPat e) (counted s) with sigCnt := sigDur e, sigIdx := i + 1#8 } := by
  obtain ⟨e, hread, hshow⟩ := tick_eq_signalShow h hg hs hcnt hnext
  rw [signalShow, h.counted.busWrite_eq] at hshow
  exact ⟨e, hread, hshow⟩

/-- The TICK that meets the END of a ONESHOT signal ends it, resumes, and goes on as a NormalTick (R175, R176). -/
theorem tick_of_oneshot_end (h : Good s) (hg : s.guard = false) (hs : s.sigId ≠ 0#8) (hcnt : s.sigCnt.toNat ≤ 1)
    (hend : s.sigIdx.toNat = sigEnd s.cfg s.sigId.toNat) (hmode : sigMode s.cfg s.sigId.toNat = some .oneshot) :
    tick s = normalTick (resume { counted s with sigId := 0#8 }) := by
  obtain ⟨e, hread, he⟩ := h.sigRead_sigEnd hs
  rw [tick_eq_specialTick hg hs,
    specialTick_of_oneshot (s := counted s) (Nat.not_lt.mpr hcnt) (hend ▸ hread) he hmode]
  rfl

/-- TICKs that leave SIG_CNT at 1 or more only count it down. -/
theorem tickTimes_signal_counting (hg : s.guard = false) (hs : s.sigId ≠ 0#8) {k : Nat} (hk : k ≤ s.sigCnt.toNat - 1) :
    tickTimes k s = .next (signalCounted k s) := by
  have hchain : ∀ j < k, tick (signalCounted j s) = .next (signalCounted (j + 1) s) := fun j hj => by
    have hcnt : (signalCounted j s).sigCnt.toNat = s.sigCnt.toNat - j := toNat_sub_ofNat (by omega)
    rw [tick_of_signal_counting (s := signalCounted j s) hg hs (by omega), signalCounted_succ]
  simpa [signalCounted] using tickTimes_of_chain hchain

end Signal

end Sys2Proof.Machine

namespace Sys2Proof.Machine

/-! ## A chase plays its table (R181) -/

/-- From `s`, SPEED TICKs lead to `t`: the first shows entry `e`, the one at index `i`, the others count down to the next. -/
structure ChaseElement (s : State) (i : BitVec 8) (e : Byte) (t : State) : Prop where
  run : tickTimes s.speed.toNat s = .next t
  writes : t.writes = s.writes ++ [(s.performed + 1, chasePat e)]
  performed : t.performed = s.performed + s.speed.toNat
  runs : ChaseRuns t
  due : t.chaseCnt.toNat ≤ 1
  idx : t.chaseIdx = i + 1#8
  seqNum : t.seqNum = s.seqNum
  speed : t.speed = s.speed
  cfg : t.cfg = s.cfg

/-- A good running chase with an element due shows it and waits SPEED TICKs. -/
theorem ChaseRuns.exists_chaseElement {s : State} {i : BitVec 8} (hr : ChaseRuns s) (h : Good s) (hcnt : s.chaseCnt.toNat ≤ 1)
    (hnext : ChaseNext s i) : ∃ e t, chaseRead s.cfg s.seqNum.toNat i.toNat = some e ∧ ChaseElement s i e t := by
  obtain ⟨e, hread, hshow⟩ := hr.tick_eq_chaseShow h hcnt hnext
  have hspeed : 1 ≤ s.speed.toNat := h.speedAtLeastOne
  have hruns := chaseRuns_chaseShow hr e i
  have hdown : tickTimes (s.speed.toNat - 1) (chaseShow e i (counted s)) = _ := hruns.tickTimes_counting le_rfl
  refine ⟨e, chaseCounted (s.speed.toNat - 1) (chaseShow e i (counted s)), hread, ?_⟩
  constructor
  case run =>
    rw [← Nat.sub_add_cancel hspeed, tickTimes_succ, hshow, andThen_next, Nat.add_sub_cancel, hdown]
  case runs => exact chaseRuns_chaseCounted hruns _
  case performed =>
    simp only [chaseCounted, chaseShow, busWrite_performed, counted_performed]
    omega
  case due =>
    have hto : (s.speed - BitVec.ofNat 8 (s.speed.toNat - 1)).toNat = _ := toNat_sub_ofNat (Nat.sub_le _ _)
    simp only [chaseCounted, chaseShow, counted_speed]
    omega
  all_goals simp [chaseCounted, chaseShow]

/-- From `s`, `k` elements of SPEED TICKs each lead to `t`: they have written the table's first `k` entries, one every SPEED TICKs,
and the next element is due. -/
structure ChasePlayed (s : State) (table : List Byte) (k : Nat) (t : State) : Prop where
  run : tickTimes (k * s.speed.toNat) s = .next t
  writes : t.writes = s.writes ++
    (List.range k).map fun j => (s.performed + 1 + j * s.speed.toNat, chasePat (table.getD j 0#8))
  performed : t.performed = s.performed + k * s.speed.toNat
  runs : ChaseRuns t
  due : t.chaseCnt.toNat ≤ 1
  idx : t.chaseIdx.toNat = k ∨ (k = 0 ∧ t.chaseIdx.toNat = chaseEnd s.cfg s.seqNum.toNat)
  seqNum : t.seqNum = s.seqNum
  speed : t.speed = s.speed
  cfg : t.cfg = s.cfg

section ChasePlayed

variable {s t : State} {table : List Byte} {k : Nat}

/-- Before END the next entry to show after `k` elements is entry `k`. -/
theorem ChasePlayed.chaseNext {i : BitVec 8} (h : ChasePlayed s table k t) (hi : i.toNat = k)
    (hk : k < chaseEnd s.cfg s.seqNum.toNat) : ChaseNext t i := by
  unfold ChaseNext
  rw [h.cfg, h.seqNum, hi]
  exact ⟨hk, h.idx.imp (fun hidx => BitVec.eq_of_toNat_eq (hidx.trans hi.symm))
    fun ⟨h0, hend⟩ => ⟨BitVec.eq_of_toNat_eq (hi.trans h0), hend⟩⟩

/-- One element more. -/
theorem ChasePlayed.next (h : ChasePlayed s table k t) (hs : Good s) (htable : chaseTable s.cfg s.seqNum.toNat = some table)
    (hk : k < chaseEnd s.cfg s.seqNum.toNat) : ∃ u, ChasePlayed s table (k + 1) u := by
  obtain ⟨_, hmax⟩ := chaseEnd_range hs.wellFormed hs.chaseInTable.1
  have hto : (BitVec.ofNat 8 k).toNat = k := by
    rw [BitVec.toNat_ofNat]
    omega
  obtain ⟨e, u, hread, helem⟩ := h.runs.exists_chaseElement (hs.tickTimes h.run) h.due (h.chaseNext hto hk)
  have hentry : table.getD k 0#8 = e := by
    rw [h.cfg, h.seqNum, hto] at hread
    obtain ⟨_, htable', hget⟩ := chaseRead_eq_some.mp hread
    cases htable.symm.trans htable'
    simp [hget]
  refine ⟨u, ?_⟩
  constructor
  case run =>
    rw [Nat.succ_mul]
    exact tickTimes_trans h.run (h.speed ▸ helem.run)
  case writes =>
    rw [helem.writes, h.writes, h.performed, List.range_succ, List.map_append, List.map_singleton, hentry, List.append_assoc,
      Nat.add_right_comm]
  case performed => rw [helem.performed, h.performed, h.speed, Nat.succ_mul, Nat.add_assoc]
  case runs => exact helem.runs
  case due => exact helem.due
  case idx => rw [helem.idx, toNat_add_one (by omega), hto]; exact .inl rfl
  case seqNum => rw [helem.seqNum, h.seqNum]
  case speed => rw [helem.speed, h.speed]
  case cfg => rw [helem.cfg, h.cfg]

/-- From the table's start or END, with an element due, any number of its elements is played. -/
theorem ChaseRuns.exists_chasePlayed (hr : ChaseRuns s) (hs : Good s) (htable : chaseTable s.cfg s.seqNum.toNat = some table)
    (hcnt : s.chaseCnt.toNat ≤ 1) (hidx : s.chaseIdx = 0#8 ∨ s.chaseIdx.toNat = chaseEnd s.cfg s.seqNum.toNat)
    (hk : k ≤ chaseEnd s.cfg s.seqNum.toNat) : ∃ t, ChasePlayed s table k t := by
  induction k with
  | zero =>
    refine ⟨s, by rw [Nat.zero_mul]; rfl, by simp, by simp, hr, hcnt, ?_, rfl, rfl, rfl⟩
    exact hidx.imp (fun h0 => by rw [h0]; rfl) fun hend => ⟨rfl, hend⟩
  | succ k ih =>
    obtain ⟨t, ht⟩ := ih (by omega)
    exact ht.next hs htable hk

end ChasePlayed

/-! ## A LOOP signal plays its table (R173, R174) -/

/-- How many TICKs a data step stays: `max(D, 1)` (R173). -/
def stepTicks (e : SigEntry) : Nat := max 1 (sigDur e).toNat

/-- The data steps of signal n, the entries between its mode tag and its END (R57, R60). -/
def signalSteps (c : Config) (n : Nat) : List SigEntry := (((sigTable c n).getD []).take (sigEnd c n)).drop 1

/-- The number of data steps: indices 1 to END - 1. -/
theorem signalSteps_length (c : Config) (n : Nat) : (signalSteps c n).length = sigEnd c n - 1 := by
  have hle : sigEnd c n ≤ ((sigTable c n).getD []).length := List.findIdx_le_length
  rw [signalSteps, List.length_drop, List.length_take, Nat.min_eq_left hle]

/-- Data step `k` of a signal is the entry at index `k + 1` of its table. -/
theorem signalSteps_getElem? {c : Config} {n k : Nat} {e : SigEntry} (hk : k + 1 < sigEnd c n)
    (hread : sigRead c n (k + 1) = some e) : (signalSteps c n)[k]? = some e := by
  obtain ⟨t, ht, hget⟩ := sigRead_eq_some.mp hread
  rw [signalSteps, ht, List.getElem?_drop, List.getElem?_take, Nat.add_comm, if_pos hk]
  exact hget

/-- From `s`, as many TICKs as step `e`, the one at index `i`, stays lead to `t`: the first shows it, the others count down
to the next. -/
structure SignalStep (s : State) (i : BitVec 8) (e : SigEntry) (t : State) : Prop where
  run : tickTimes (stepTicks e) s = .next t
  writes : t.writes.map Prod.snd = s.writes.map Prod.snd ++ [sigPat e]
  guard : t.guard = s.guard
  sigId : t.sigId = s.sigId
  due : t.sigCnt.toNat ≤ 1
  idx : t.sigIdx = i + 1#8
  chaseIdx : t.chaseIdx = s.chaseIdx
  chaseCnt : t.chaseCnt = s.chaseCnt
  offDone : t.offDone = s.offDone
  cfg : t.cfg = s.cfg

/-- A good state with a signal's step due shows it and waits for its duration. -/
theorem Good.exists_signalStep {s : State} {i : BitVec 8} (h : Good s) (hg : s.guard = false) (hs : s.sigId ≠ 0#8)
    (hcnt : s.sigCnt.toNat ≤ 1) (hnext : SignalNext s i) :
    ∃ e t, sigRead s.cfg s.sigId.toNat i.toNat = some e ∧ SignalStep s i e t := by
  obtain ⟨e, hread, hshow⟩ := tick_eq_signalShow h hg hs hcnt hnext
  have hpos : 1 ≤ stepTicks e := le_max_left _ _
  have hlow : stepTicks e - 1 = (sigDur e).toNat - 1 := by
    unfold stepTicks
    omega
  have hdown := tickTimes_signal_counting (s := Machine.signalShow e i (Machine.counted s)) (k := stepTicks e - 1)
    (by simpa [Machine.signalShow]) (by simpa [Machine.signalShow]) hlow.le
  refine ⟨e, signalCounted (stepTicks e - 1) (Machine.signalShow e i (Machine.counted s)), hread, ?_⟩
  constructor
  case run => rw [← Nat.sub_add_cancel hpos, tickTimes_succ, hshow, andThen_next, Nat.add_sub_cancel, hdown]
  case due =>
    have hto : (sigDur e - BitVec.ofNat 16 (stepTicks e - 1)).toNat = _ := toNat_sub_ofNat (by omega)
    simp only [signalCounted, Machine.signalShow]
    omega
  all_goals simp [signalCounted, Machine.signalShow]

/-- From `s`, the TICKs of the signal's first `k` data steps lead to `t`: they have written those steps' patterns in order, and
the next step is due. -/
structure SignalPlayed (s : State) (k : Nat) (t : State) : Prop where
  run : tickTimes (((signalSteps s.cfg s.sigId.toNat).take k).map stepTicks).sum s = .next t
  writes : t.writes.map Prod.snd = s.writes.map Prod.snd ++ ((signalSteps s.cfg s.sigId.toNat).take k).map sigPat
  guard : t.guard = s.guard
  sigId : t.sigId = s.sigId
  due : t.sigCnt.toNat ≤ 1
  idx : t.sigIdx.toNat = k + 1 ∨ (k = 0 ∧ t.sigIdx.toNat = sigEnd s.cfg s.sigId.toNat)
  chaseIdx : t.chaseIdx = s.chaseIdx
  chaseCnt : t.chaseCnt = s.chaseCnt
  offDone : t.offDone = s.offDone
  cfg : t.cfg = s.cfg

section SignalPlayed

variable {s t : State} {k : Nat}

/-- Before END the next step to show after `k` data steps is the one at index `k + 1`. -/
theorem SignalPlayed.signalNext {i : BitVec 8} (h : SignalPlayed s k t) (hmode : sigMode s.cfg s.sigId.toNat = some .loop)
    (hi : i.toNat = k + 1) (hk : k + 1 < sigEnd s.cfg s.sigId.toNat) : SignalNext t i := by
  unfold SignalNext
  rw [h.cfg, h.sigId, hi]
  refine ⟨hk, h.idx.imp (fun hidx => BitVec.eq_of_toNat_eq (hidx.trans hi.symm)) fun ⟨h0, hend⟩ => ⟨?_, hend, hmode⟩⟩
  exact BitVec.eq_of_toNat_eq (hi.trans (congrArg (· + 1) h0))

/-- One data step more. -/
theorem SignalPlayed.next (h : SignalPlayed s k t) (hs : Good s) (hg : s.guard = false) (hid : s.sigId ≠ 0#8)
    (hmode : sigMode s.cfg s.sigId.toNat = some .loop) (hk : k + 1 < sigEnd s.cfg s.sigId.toNat) :
    ∃ u, SignalPlayed s (k + 1) u := by
  obtain ⟨_, hend⟩ := hs.sigEnd_range hid
  have hmax := ranges_of_wellFormed hs.wellFormed
  have hto : (BitVec.ofNat 8 (k + 1)).toNat = k + 1 := by
    rw [BitVec.toNat_ofNat]
    omega
  obtain ⟨e, u, hread, hstep⟩ := (hs.tickTimes h.run).exists_signalStep (h.guard.trans hg) (h.sigId ▸ hid) h.due
    (h.signalNext hmode hto hk)
  rw [h.cfg, h.sigId, hto] at hread
  have htake : (signalSteps s.cfg s.sigId.toNat).take (k + 1) = (signalSteps s.cfg s.sigId.toNat).take k ++ [e] := by
    rw [List.take_add_one, signalSteps_getElem? hk hread, Option.toList_some]
  refine ⟨u, ?_⟩
  constructor
  case run =>
    rw [htake, List.map_append, List.sum_append, List.map_singleton, List.sum_singleton]
    exact tickTimes_trans h.run hstep.run
  case writes => rw [hstep.writes, h.writes, htake, List.map_append, List.map_singleton, List.append_assoc]
  case guard => rw [hstep.guard, h.guard]
  case sigId => rw [hstep.sigId, h.sigId]
  case due => exact hstep.due
  case idx => rw [hstep.idx, toNat_add_one (by omega), hto]; exact .inl rfl
  case chaseIdx => rw [hstep.chaseIdx, h.chaseIdx]
  case chaseCnt => rw [hstep.chaseCnt, h.chaseCnt]
  case offDone => rw [hstep.offDone, h.offDone]
  case cfg => rw [hstep.cfg, h.cfg]

/-- From the first step or the END of a LOOP signal, with a step due, any number of its data steps is played. -/
theorem Good.exists_signalPlayed (hs : Good s) (hg : s.guard = false) (hid : s.sigId ≠ 0#8)
    (hmode : sigMode s.cfg s.sigId.toNat = some .loop) (hcnt : s.sigCnt.toNat ≤ 1)
    (hidx : s.sigIdx = 1#8 ∨ s.sigIdx.toNat = sigEnd s.cfg s.sigId.toNat) (hk : k + 1 ≤ sigEnd s.cfg s.sigId.toNat) :
    ∃ t, SignalPlayed s k t := by
  induction k with
  | zero =>
    refine ⟨s, rfl, by simp, rfl, rfl, hcnt, ?_, rfl, rfl, rfl, rfl⟩
    exact hidx.imp (fun h1 => by rw [h1]; rfl) fun hend => ⟨rfl, hend⟩
  | succ k ih =>
    obtain ⟨t, ht⟩ := ih (by omega)
    exact ht.next hs hg hid hmode hk

end SignalPlayed

/-! ## Every good state takes a TICK (R183, R230) -/

/-- NormalTick of a good state completes: CHASE_IDX is in its table (R62). -/
theorem Good.normalTick_completes {s : State} (h : Good s) : ∃ t, Machine.normalTick s = .next t := by
  cases hheld : s.held with
  | true => exact ⟨_, normalTick_of_held hheld⟩
  | false =>
    cases hon : s.chaseOn with
    | false => exact ⟨_, normalTick_of_off hheld hon⟩
    | true =>
      cases hstop : s.stopped with
      | true => exact ⟨_, normalTick_of_stopped hheld hon hstop⟩
      | false =>
        by_cases hcnt : 1#8 < s.chaseCnt
        · exact ⟨_, normalTick_of_counting hheld hon hstop hcnt⟩
        · obtain ⟨i, hnext⟩ := h.exists_chaseNext
          obtain ⟨e, _, hstep⟩ := chaseStep_eq_chaseShow h hnext
          exact ⟨_, (normalTick_of_due hheld hon hstop hcnt).trans hstep⟩

/-- With a signal active and GUARD = 0 the TICK of a good state completes: SIG_IDX is in its table (R62). -/
theorem Good.signalTick_completes {s : State} (h : Good s) (hg : s.guard = false) (hs : s.sigId ≠ 0#8) :
    ∃ t, Machine.tick s = .next t := by
  obtain ⟨_, _, hin⟩ := h.signalInTable
  rcases Nat.lt_or_ge 1 s.sigCnt.toNat with hcnt | hcnt
  · exact ⟨_, tick_of_signal_counting hg hs hcnt⟩
  rcases (hin hs).2.lt_or_eq with hlt | hend
  · obtain ⟨e, _, hshow⟩ := tick_eq_signalShow h hg hs hcnt (signalNext_of_lt hlt)
    exact ⟨_, hshow⟩
  obtain ⟨m, hmode⟩ := h.sigMode_eq_some hs
  cases m with
  | loop =>
    obtain ⟨e, _, hshow⟩ := tick_eq_signalShow h hg hs hcnt (h.signalNext_one hs hmode (.inr hend))
    exact ⟨_, hshow⟩
  | oneshot =>
    have hresumed : Good (Machine.resume { Machine.counted s with sigId := 0#8 }) := h.counted.resume
    rw [tick_of_oneshot_end h hg hs hcnt hend hmode]
    exact hresumed.normalTick_completes

/-- A TICK of a good state completes. -/
theorem Good.tick_completes {s : State} (h : Good s) : ∃ t, Machine.tick s = .next t := by
  cases hg : s.guard with
  | true => exact ⟨s, tick_of_guard hg⟩
  | false =>
    by_cases hs : s.sigId = 0#8
    · rw [tick_eq_normalTick hg hs]
      exact h.counted.normalTick_completes
    · exact h.signalTick_completes hg hs

/-- FG's step always completes (R130, R230). -/
theorem fgStep_completes (s : State) : ∃ t, fgStep s = .next t := by
  cases hphase : s.phase with
  | idle => exact ⟨issueNext s, by simp [fgStep, hphase]⟩
  | begun w =>
    obtain ⟨u, _, _, _, happly⟩ := applyCommand_with_sched w s
    exact ⟨_, (fgStep_of_begun hphase).trans (happly s.sched)⟩
  | applied => exact ⟨_, fgStep_of_applied hphase⟩

/-- Choosing the next agent keeps a state good. -/
theorem Good.choiceUsed {s : State} (h : Good s) : Good (choiceUsed s) := by
  obtain ⟨r, k, heq⟩ := choiceUsed_eq s
  rw [heq]
  exact h

/-! ## At most one BusWrite in a TICK (R182) -/

/-- From `s` to `t` the record has gained at most one BusWrite, numbered `n`, and exactly its pin events. -/
def WritesAtMostOnce (n : Nat) (s t : State) : Prop :=
  (t.writes = s.writes ∧ t.pinLog = s.pinLog) ∨
    ∃ v, t.writes = s.writes ++ [(n, v)] ∧ t.pinLog = s.pinLog ++ busEvents s.cfg.wBus v

theorem NormalEffect.writesAtMostOnce {s t : State} (h : NormalEffect s t) : WritesAtMostOnce s.performed s t := by
  cases h with
  | quiet => exact .inl ⟨rfl, rfl⟩
  | manualShow => exact .inr ⟨s.heldVal, by simp⟩
  | offShow => exact .inr ⟨0#6, by simp⟩
  | chaseCount => exact .inl ⟨rfl, rfl⟩
  | chaseShow v => exact .inr ⟨v, by simp⟩

theorem SpecialEffect.writesAtMostOnce {s t : State} (h : SpecialEffect s t) : WritesAtMostOnce s.performed s t := by
  cases h with
  | count => exact .inl ⟨rfl, rfl⟩
  | showStep v => exact .inr ⟨v, by simp⟩

theorem TickEffect.writesAtMostOnce {s t : State} (h : TickEffect s t) : WritesAtMostOnce (s.performed + 1) s t := by
  cases h with
  | dropped => exact .inl ⟨rfl, rfl⟩
  | special _ he => exact he.writesAtMostOnce
  | handover _ he => exact he.writesAtMostOnce
  | normal _ he => exact he.writesAtMostOnce

/-- A recorded BusWrite with its pin events keeps the two forms of the observation in agreement (R184). -/
theorem WritesAtMostOnce.logsAgree {n : Nat} {s t : State} (h : WritesAtMostOnce n s t) (hs : LogsAgree s)
    (hcfg : t.cfg = s.cfg) : LogsAgree t := by
  unfold LogsAgree at hs ⊢
  rcases h with ⟨hwrites, hlog⟩ | ⟨v, hwrites, hlog⟩
  · rw [hwrites, hlog, hcfg, hs]
  · rw [hwrites, hlog, hcfg, hs, List.flatMap_append, List.flatMap_singleton]

/-- A command leaves the observation alone. -/
theorem ExecEffect.logsAgree {s t : State} {i : Instr} (h : ExecEffect s i t) (hs : LogsAgree s) : LogsAgree t := by
  cases h <;> exact hs

end Sys2Proof.Machine

namespace Sys2Proof.Machine

/-! ## The statements about the TICK (R170 to R184) -/

/-- Settles O21: the schedule names TMR, and TICK tests GUARD first. -/
theorem guardDropsTicks : Obligations.GuardDropsTicks := by
  intro s rest hwf hsched
  rw [step_of_sched_eq hwf hsched]
  exact ⟨fun hguard => tick_of_guard (s := { s with sched := rest }) hguard, fun hguard => if_neg (by simp [hguard])⟩

/-- Settles O35: the TICK is ManualTick. -/
theorem heldPatternIsWrittenWhenItDiffers : Obligations.HeldPatternIsWrittenWhenItDiffers := by
  intro s h hg hs hheld
  rw [tick_eq_normalTick hg hs, normalTick_of_held (s := counted s) hheld, h.counted.manualTick_eq]
  rfl

/-- Settles O36: the TICK is OffTick, which writes while OFF_DONE is 0 and leaves the state as it is once OFF_DONE is 1. -/
theorem offIsWrittenExactlyOnce : Obligations.OffIsWrittenExactlyOnce := by
  intro s h hg hs hheld hon
  refine ⟨fun hdone => ?_, fun hdone => tickTimes_of_quiet fun n => ?_⟩
  · rw [tick_eq_normalTick hg hs, normalTick_of_off (s := counted s) hheld hon, h.counted.offTick_eq hdone]
  · exact tick_of_off_done (s := { s with performed := n }) hg hs hheld hon hdone

/-- Settles O37: each of the TICKs only counts itself. -/
theorem stoppedChaseHolds : Obligations.StoppedChaseHolds := by
  intro s hg hs hheld hon hstop
  exact tickTimes_of_quiet fun n => tick_of_stopped (s := { s with performed := n }) hg hs hheld hon hstop

/-- Settles O38: a running chase counts down, or shows the next entry, which at END is entry 0. -/
theorem chaseTickCountsOrShowsAnEntry : Obligations.ChaseTickCountsOrShowsAnEntry := by
  intro s h hg hs hheld hon hstop
  have hruns : ChaseRuns s := ⟨hg, hs, hheld, hon, hstop⟩
  refine ⟨hruns.tick_of_counting, fun hcnt => ⟨fun hlt => ?_, fun hend => ?_⟩⟩
  · exact hruns.tick_eq_afterBusWrite h hcnt (chaseNext_of_lt hlt)
  · exact hruns.tick_eq_afterBusWrite h hcnt (h.chaseNext_zero (.inr hend))

/-- Settles O39: below CHASE_CNT the chase only counts down. -/
theorem chaseElementStaysForItsCount : Obligations.ChaseElementStaysForItsCount := by
  intro s k hg hs hheld hon hstop hk
  exact ChaseRuns.tickTimes_counting ⟨hg, hs, hheld, hon, hstop⟩ (Nat.le_sub_one_of_lt hk)

/-- Settles O40, by induction on the number of elements played, up to the table's END. -/
theorem chasePlaysItsTablePeriodically : Obligations.ChasePlaysItsTablePeriodically := by
  intro s h hg hs hheld hon hstop hcnt hidx
  obtain ⟨hseq, _⟩ := h.chaseInTable
  obtain ⟨table, htable, _⟩ := chaseTable_of_wellFormed h.wellFormed hseq
  have hruns : ChaseRuns s := ⟨hg, hs, hheld, hon, hstop⟩
  obtain ⟨t, ht⟩ := hruns.exists_chasePlayed h htable hcnt hidx le_rfl
  obtain ⟨hguard, hsignal, hheld', hon', hstop'⟩ := ht.runs
  have hend : t.chaseIdx.toNat = chaseEnd s.cfg s.seqNum.toNat := ht.idx.elim id And.right
  exact ⟨table, t, htable, ht.run, ht.writes, h.tickTimes ht.run, hguard, hsignal, hheld', hon', hstop', ht.due, hend, ht.seqNum,
    ht.speed, ht.cfg⟩

/-- Settles O41: an active signal counts down, or shows the next step, which at the END of a LOOP signal is step 1. -/
theorem signalTickCountsOrShowsAStep : Obligations.SignalTickCountsOrShowsAStep := by
  intro s h hg hs
  refine ⟨tick_of_signal_counting hg hs, fun hcnt => ⟨fun hlt => ?_, fun hend hmode => ?_⟩⟩
  · exact signalTick_eq_afterBusWrite h hg hs hcnt (signalNext_of_lt hlt)
  · exact signalTick_eq_afterBusWrite h hg hs hcnt (h.signalNext_one hs hmode (.inr hend))

/-- Settles O42: below SIG_CNT the signal only counts down. -/
theorem signalStepStaysForItsDuration : Obligations.SignalStepStaysForItsDuration :=
  fun _ _ hg hs hk => tickTimes_signal_counting hg hs (Nat.le_sub_one_of_lt hk)

/-- Settles O43, by induction on the number of data steps played, up to the table's END. -/
theorem loopSignalPlaysItsTablePeriodically : Obligations.LoopSignalPlaysItsTablePeriodically := by
  intro s h hg hs hmode hcnt hidx
  obtain ⟨hend, _⟩ := h.sigEnd_range hs
  have hpos : s.sigId.toNat ≠ 0 := fun h0 => hs (BitVec.eq_of_toNat_eq h0)
  obtain ⟨table, htable, _⟩ := sigTable_of_wellFormed h.wellFormed (n := s.sigId.toNat) (by omega) h.signalInTable.1
  obtain ⟨t, ht⟩ := h.exists_signalPlayed (k := sigEnd s.cfg s.sigId.toNat - 1) hg hs hmode hcnt hidx (by omega)
  have hsteps : (signalSteps s.cfg s.sigId.toNat).take (sigEnd s.cfg s.sigId.toNat - 1) =
      (table.take (sigEnd s.cfg s.sigId.toNat)).drop 1 := by
    rw [← signalSteps_length, List.take_length, signalSteps, htable, Option.getD_some]
  have hrun := ht.run
  have hwrites := ht.writes
  rw [hsteps] at hrun hwrites
  have hidx' : t.sigIdx.toNat = sigEnd s.cfg s.sigId.toNat := by
    rcases ht.idx with hidx' | ⟨h0, _⟩ <;> omega
  exact ⟨table, t, htable, hrun, hwrites, h.tickTimes ht.run, ht.guard.trans hg, ht.sigId, ht.due, hidx', ht.chaseIdx,
    ht.chaseCnt, ht.offDone, ht.cfg⟩

/-- Settles O44: the rest of the TICK is a NormalTick of the resumed state, which is good and stands at the start of its chase
table. -/
theorem oneshotEndHandsOverInTheSameTick : Obligations.OneshotEndHandsOverInTheSameTick := by
  intro s h hg hs hcnt hend hmode u
  have hu : Good u := h.counted.resume
  have htick : tick s = normalTick u := tick_of_oneshot_end h hg hs hcnt hend hmode
  rw [htick]
  refine ⟨fun hheld => ?_, fun hheld hon => ?_, fun hheld hon hstop => ?_, fun hheld hon hstop => ?_⟩
  · rw [normalTick_of_held (s := u) hheld, hu.manualTick_eq]
    rfl
  · rw [normalTick_of_off (s := u) hheld hon, hu.offTick_eq rfl]
  · exact normalTick_of_stopped (s := u) hheld hon hstop
  · obtain ⟨e, hread, hstep⟩ := chaseStep_eq_chaseShow hu (hu.chaseNext_zero (.inl rfl))
    have hdue : ¬ 1#8 < u.chaseCnt := Nat.not_lt_zero 1
    rw [normalTick_of_due (s := u) hheld hon hstop hdue, hstep, chaseShow, hu.busWrite_eq]
    exact ⟨e, hread, rfl⟩

/-- Settles O47: every effect that a TICK can have makes at most one BusWrite. -/
theorem atMostOneBusWritePerTick : Obligations.AtMostOneBusWritePerTick :=
  fun _ _ h => (tick_effect h).writesAtMostOnce

/-- Settles O52: each agent's step completes, FG's from every state and TMR's from every good one. -/
theorem goodStatesAlwaysStep : Obligations.GoodStatesAlwaysStep := by
  intro s h
  rw [step_eq h.wellFormed]
  cases nextAgent s with
  | fg => exact fgStep_completes (choiceUsed s)
  | tmr => exact h.choiceUsed.tick_completes
  | rst => exact ⟨resetBlock (choiceUsed s), rfl⟩

/-- Settles O55: only a TICK writes the observation, and with each BusWrite it records its pin events. -/
theorem pinEventsAreTheRecordedWrites : Obligations.PinEventsAreTheRecordedWrites := by
  intro s t hs hstep
  obtain ⟨_, r, k, hmove⟩ := step_move hstep
  have hc : LogsAgree { s with sched := r, turn := k } := hs
  cases hmove with
  | issue =>
    obtain ⟨_, _, _, _, hissue, _⟩ := issueNext_keeps { s with sched := r, turn := k }
    rw [hissue]
    exact hs
  | apply _ he => exact he.logsAgree hc
  | applyIllegal => exact hs
  | finish => exact hs
  | tick _ ht =>
    have he := tick_effect ht
    exact he.writesAtMostOnce.logsAgree hc he.cfg_eq
  | reset => exact hs

end Sys2Proof.Machine

namespace Sys2Proof.Machine

/-! ## The pin events of a BusWrite (R211 to R213) -/

/-- A bit above the pattern is one more zero of the pad (R213). -/
theorem busBits_succ_of_le {w : Nat} (hw : 6 ≤ w) (v : Pattern) : busBits (w + 1) v = false :: busBits w v := by
  simp [busBits, List.range_succ, BitVec.getLsbD_of_ge v w hw]

theorem busBits_six (v : Pattern) :
    busBits 6 v = [v.getLsbD 5, v.getLsbD 4, v.getLsbD 3, v.getLsbD 2, v.getLsbD 1, v.getLsbD 0] := rfl

/-- The bits of a BusWrite are the zero pad and then the pattern, most significant bit first (R213). -/
theorem busBits_eq_pad_append {w : Nat} (hw : 6 ≤ w) (v : Pattern) :
    busBits w v = List.replicate (w - 6) false ++ busBits 6 v := by
  induction w, hw using Nat.le_induction with
  | base => rfl
  | succ w hw ih => rw [busBits_succ_of_le hw, ih, Nat.succ_sub hw, List.replicate_succ, List.cons_append]

/-- What occurs `n` times among the events of each bit occurs `n` times the number of bits among the events of them all. -/
theorem countP_flatMap_bitEvents {p : PinEvent → Bool} {n : Nat} (hbit : ∀ b, (bitEvents b).countP p = n) (bs : List Bool) :
    (bs.flatMap bitEvents).countP p = n * bs.length := by
  induction bs with
  | nil => rfl
  | cons b bs ih => rw [List.flatMap_cons, List.countP_append, hbit, ih, List.length_cons, Nat.mul_succ, Nat.add_comm]

/-- The parts of R212: one DAT event and two CLK events for each bit, and the two LAT events of the pulse. -/
theorem busEvents_countP {p : PinEvent → Bool} {n : Nat} (hbit : ∀ b, (bitEvents b).countP p = n) (w : Nat) (v : Pattern) :
    (busEvents w v).countP p = n * w + latchEvents.countP p := by
  rw [busEvents, List.countP_append, countP_flatMap_bitEvents hbit, busBits_length]

theorem busEvents_countP_dat (w : Nat) (v : Pattern) : (busEvents w v).countP (fun e => e.pin == .dat) = w := by
  simpa [latchEvents] using busEvents_countP (p := fun e => e.pin == .dat) (n := 1) (fun _ => rfl) w v

theorem busEvents_countP_clk (w : Nat) (v : Pattern) : (busEvents w v).countP (fun e => e.pin == .clk) = 2 * w :=
  busEvents_countP (fun _ => rfl) w v

theorem busEvents_countP_lat (w : Nat) (v : Pattern) : (busEvents w v).countP (fun e => e.pin == .lat) = 2 := by
  simpa [latchEvents] using busEvents_countP (p := fun e => e.pin == .lat) (n := 0) (fun _ => rfl) w v

/-- The parts of R212 add up to the total of R211 (log 15). -/
theorem busEvents_length (w : Nat) (v : Pattern) : (busEvents w v).length = 3 * w + 2 := by
  rw [pinEvents_length, busEvents_countP_dat, busEvents_countP_clk, busEvents_countP_lat]
  omega

/-! ## The lights before the latch (R214, R215) -/

/-- Only a LAT event can change SR_OUT (R214). -/
theorem drivePins_srOut_of_no_lat {es : List PinEvent} (h : ∀ e ∈ es, e.pin ≠ .lat) (s : State) :
    (drivePins es s).srOut = s.srOut := by
  induction es generalizing s with
  | nil => rfl
  | cons e es ih =>
    obtain ⟨he, hes⟩ := List.forall_mem_cons.mp h
    rw [drivePins_cons, ih hes, drivePin_srOut]
    simp [rises, he]

/-- The events of the bits drive DAT and CLK only (R211). -/
theorem pin_ne_lat_of_mem_bits {bs : List Bool} {e : PinEvent} (he : e ∈ bs.flatMap bitEvents) : e.pin ≠ .lat := by
  obtain ⟨b, _, hb⟩ := List.mem_flatMap.mp he
  simp only [bitEvents, List.mem_cons, List.not_mem_nil, or_false] at hb
  rcases hb with rfl | rfl | rfl <;> simp

/-- The first `3 * w` events of a BusWrite are those of its bits; the latch pulse comes after them (R211). -/
theorem busEvents_take {w n : Nat} (hn : n ≤ 3 * w) (v : Pattern) :
    (busEvents w v).take n = ((busBits w v).flatMap bitEvents).take n := by
  have hlen := busEvents_length w v
  rw [busEvents, List.length_append, show latchEvents.length = 2 from rfl] at hlen
  rw [busEvents, List.take_append_of_le_length (by omega)]

/-! ## The statements about the Bus Driver (R210 to R217) -/

/-- Settles O30: the pad and the pattern give the order of the events, and each bit's share of them the counts. -/
theorem busShiftsPadThenPatternMsbFirst : Obligations.BusShiftsPadThenPatternMsbFirst := by
  intro w v hw
  refine ⟨?_, busEvents_countP_dat w v, busEvents_countP_clk w v, busEvents_countP_lat w v, busEvents_length w v⟩
  rw [busEvents, busBits_eq_pad_append hw, busBits_six]
  rfl

/-- Settles O32: the bits push out whatever SR held, and the latch pulse shows them. -/
theorem busWriteReplacesTheRegister : Obligations.BusWriteReplacesTheRegister :=
  fun v _ hw hclk hlat hlen => busWrite_eq_afterBusWrite v hw hclk hlat hlen

/-- Settles O33: none of the events before the latch pulse drives LAT. -/
theorem lightsHoldUntilTheLatch : Obligations.LightsHoldUntilTheLatch := by
  intro v s w n hn
  rw [busEvents_take hn]
  exact drivePins_srOut_of_no_lat (fun _ he => pin_ne_lat_of_mem_bits (List.mem_of_mem_take he)) s

/-- Refutes O31: on a bus of 6 bits the write of 0x2A has 20 pin events, where R212's total is 26 (log 15). -/
theorem not_busWriteHasFourEventsPerBit : ¬ Obligations.BusWriteHasFourEventsPerBit := by
  intro h
  have htotal : (busEvents 6 0x2A#6).length = 26 := h 6 0x2A#6 le_rfl
  exact absurd htotal (by decide)

end Sys2Proof.Machine

namespace Sys2Proof.Machine

/-! ## What the check of a configuration says, table read by table read (R7, R55, R60, R232) -/

/-- No agent moves in a machine with an ill-formed configuration (R232). -/
theorem step_of_illFormed {s : State} (h : s.cfg.wellFormed = false) : step s = .refused .illFormedConfiguration := by
  simp [step, machineStep, h]

/-- An END of a chase table, by its bits (R53, R54). -/
theorem isEnd8_eq_true {e : Byte} : isEnd8 e = true ↔ e.extractLsb' 6 2 ≠ 0#2 := by
  simp [isEnd8]

/-- A data entry of a chase table, by its bits (R53, R54). -/
theorem isEnd8_eq_false {e : Byte} : isEnd8 e = false ↔ e.extractLsb' 6 2 = 0#2 := by
  simp [isEnd8]

/-- An END of a signal table, by its kind (R57). -/
theorem isEnd32_eq_true {e : SigEntry} : isEnd32 e = true ↔ sigKind e = 3#2 := by
  simp [isEnd32]

/-- ChaseRead answers from the entries of its table (R54). -/
theorem chaseRead_of_table {c : Config} {n : Nat} {t : List Byte} (ht : chaseTable c n = some t) (i : Nat) :
    chaseRead c n i = t[i]? := by
  simp [chaseRead, ht]

/-- SigRead answers from the entries of its table (R59). -/
theorem sigRead_of_table {c : Config} {g : Nat} {t : List SigEntry} (ht : sigTable c g = some t) (i : Nat) :
    sigRead c g i = t[i]? := by
  simp [sigRead, ht]

/-- The first entry that satisfies `p` is at `k` exactly when the entry there does and every one before it is there and does not. -/
theorem findIdx_eq_iff_getElem? {α : Type} {p : α → Bool} {l : List α} {k : Nat} :
    (l.findIdx p = k ∧ k < l.length) ↔
      ∃ e, l[k]? = some e ∧ p e = true ∧ ∀ i < k, ∃ d, l[i]? = some d ∧ p d = false := by
  constructor
  · rintro ⟨rfl, hk⟩
    obtain ⟨e, hget, he⟩ := getElem?_findIdx_eq_some hk
    exact ⟨e, hget, he, fun _ hi => getElem?_of_lt_findIdx hi⟩
  · rintro ⟨e, hget, he, hbefore⟩
    obtain ⟨hk, rfl⟩ := List.getElem?_eq_some_iff.mp hget
    refine ⟨(List.findIdx_eq hk).mpr ⟨he, fun i hi => ?_⟩, hk⟩
    obtain ⟨d, hd, hpd⟩ := hbefore i hi
    obtain ⟨_, rfl⟩ := List.getElem?_eq_some_iff.mp hd
    exact hpd

/-- The check of a chase table says that its least END is past the first entry and within the maximum length (R55). -/
theorem chaseTableOk_iff {maxLen : Nat} {t : List Byte} :
    chaseTableOk maxLen t = true ↔
      t.length ≤ maxLen ∧ ∃ k e, 1 ≤ k ∧ k ≤ maxLen - 1 ∧ t[k]? = some e ∧ isEnd8 e = true ∧
        ∀ i < k, ∃ d, t[i]? = some d ∧ isEnd8 d = false := by
  simp only [chaseTableOk, Bool.and_eq_true, decide_eq_true_eq]
  constructor
  · rintro ⟨⟨⟨hlen, h1⟩, hlt⟩, hmax⟩
    obtain ⟨e, hfirst⟩ := findIdx_eq_iff_getElem?.mp ⟨rfl, hlt⟩
    exact ⟨hlen, _, e, h1, hmax, hfirst⟩
  · rintro ⟨hlen, k, e, h1, hmax, hfirst⟩
    obtain ⟨rfl, hlt⟩ := findIdx_eq_iff_getElem?.mpr ⟨e, hfirst⟩
    exact ⟨⟨⟨hlen, h1⟩, hlt⟩, hmax⟩

/-- A test of entry 0, where there is one. -/
theorem all_take_one_iff {α : Type} {q : α → Bool} {l : List α} (h : 0 < l.length) :
    (l.take 1).all q = true ↔ ∃ m, l[0]? = some m ∧ q m = true := by
  cases l with
  | nil => simp at h
  | cons x xs => simp

/-- A test of the entries at the indices from 1 up to `k`. -/
theorem all_take_drop_one_iff {α : Type} {q : α → Bool} {l : List α} {k : Nat} (h : k < l.length) :
    ((l.take k).drop 1).all q = true ↔ ∀ i, 1 ≤ i → i < k → ∃ d, l[i]? = some d ∧ q d = true := by
  simp only [List.all_eq_true, List.forall_mem_iff_getElem, List.length_drop, List.length_take,
    List.getElem_drop, List.getElem_take]
  constructor
  · intro hall i h1 hi
    refine ⟨l[i], List.getElem?_eq_getElem _, ?_⟩
    simpa [Nat.add_sub_cancel' h1] using hall (i - 1) (by omega)
  · intro hall i hi
    obtain ⟨d, hd, hq⟩ := hall (1 + i) (by omega) (by omega)
    obtain ⟨_, rfl⟩ := List.getElem?_eq_some_iff.mp hd
    exact hq

/-- The check of a signal table says that it is a mode tag, then data steps, then END within the maximum length (R60). -/
theorem sigTableOk_iff {maxLen : Nat} {t : List SigEntry} :
    sigTableOk maxLen t = true ↔
      t.length ≤ maxLen ∧ (∃ m, t[0]? = some m ∧ (sigKind m = 1#2 ∨ sigKind m = 2#2)) ∧
        ∃ k e, 2 ≤ k ∧ k ≤ maxLen - 1 ∧ t[k]? = some e ∧ sigKind e = 3#2 ∧
          ∀ i, 1 ≤ i → i < k → ∃ d, t[i]? = some d ∧ sigKind d = 0#2 := by
  simp only [sigTableOk, Bool.and_eq_true, decide_eq_true_eq]
  constructor
  · rintro ⟨⟨⟨⟨⟨hlen, h2⟩, hlt⟩, hmax⟩, htag⟩, hsteps⟩
    rw [all_take_one_iff (by omega)] at htag
    rw [all_take_drop_one_iff hlt] at hsteps
    obtain ⟨e, hget, he⟩ := getElem?_findIdx_eq_some hlt
    exact ⟨hlen, by simpa using htag, _, e, h2, hmax, hget, isEnd32_eq_true.mp he, by simpa using hsteps⟩
  · rintro ⟨hlen, ⟨m, hm, htag⟩, k, e, h2, hmax, hget, he, hsteps⟩
    have hbefore : ∀ i < k, ∃ d, t[i]? = some d ∧ isEnd32 d = false := by
      intro i hi
      rcases Nat.eq_zero_or_pos i with rfl | hpos
      · exact ⟨m, hm, by rcases htag with h | h <;> simp [isEnd32, h]⟩
      · obtain ⟨d, hd, hkind⟩ := hsteps i hpos hi
        exact ⟨d, hd, by simp [isEnd32, hkind]⟩
    obtain ⟨rfl, hlt⟩ := findIdx_eq_iff_getElem?.mpr ⟨e, hget, isEnd32_eq_true.mpr he, hbefore⟩
    rw [all_take_one_iff (by omega), all_take_drop_one_iff hlt]
    exact ⟨⟨⟨⟨⟨hlen, h2⟩, hlt⟩, hmax⟩, m, hm, by simpa using htag⟩, by simpa using hsteps⟩

/-- The checks of U1 one by one: the ranges of R7 and the two checks of the tables. -/
theorem wellFormed_iff {c : Config} :
    c.wellFormed = true ↔
      (1 ≤ c.nchase ∧ c.nchase ≤ 256 ∧ c.chaseRom.length = c.nchase) ∧
      (1 ≤ c.nsig ∧ c.nsig ≤ 255 ∧ c.sigRom.length = c.nsig) ∧
      (2 ≤ c.maxChaseLen ∧ c.maxChaseLen ≤ 256) ∧ (3 ≤ c.maxSigLen ∧ c.maxSigLen ≤ 256) ∧ 6 ≤ c.wBus ∧
      c.chaseOk = true ∧ c.sigOk = true := by
  simp [Config.wellFormed, Config.nchaseOk, Config.nsigOk, Config.lengthsOk, Config.busOk, and_assoc]

/-- The check of CHASE_ROM, by table number, where it holds NCHASE tables (R52, R55). -/
theorem chaseOk_iff {c : Config} (hlen : c.chaseRom.length = c.nchase) :
    c.chaseOk = true ↔ ∀ n < c.nchase, ∃ t, chaseTable c n = some t ∧ chaseTableOk c.maxChaseLen t = true := by
  simp only [Config.chaseOk, List.all_eq_true, List.forall_mem_iff_getElem, hlen, chaseTable_eq_some]
  refine forall₂_congr fun n hn => ?_
  simp [hn, hlen]

/-- The check of SIG_ROM, by signal id, where it holds NSIG tables (R56, R60). -/
theorem sigOk_iff {c : Config} (hlen : c.sigRom.length = c.nsig) :
    c.sigOk = true ↔ ∀ g, 1 ≤ g → g ≤ c.nsig → ∃ t, sigTable c g = some t ∧ sigTableOk c.maxSigLen t = true := by
  simp only [Config.sigOk, List.all_eq_true, List.forall_mem_iff_getElem, sigTable_eq_some]
  constructor
  · intro hall g h1 hg
    have hlt : g - 1 < c.sigRom.length := by omega
    exact ⟨_, ⟨⟨h1, hg⟩, List.getElem?_eq_getElem hlt⟩, hall _ hlt⟩
  · intro hall i hi
    obtain ⟨t, ⟨_, ht⟩, hok⟩ := hall (i + 1) (by omega) (by omega)
    obtain ⟨_, rfl⟩ := List.getElem?_eq_some_iff.mp ht
    exact hok

/-- A well-formed chase table, in the reads of R54. -/
theorem chaseTableOk_iff_reads {c : Config} {n : Nat} {t : List Byte} (ht : chaseTable c n = some t) :
    chaseTableOk c.maxChaseLen t = true ↔
      t.length ≤ c.maxChaseLen ∧ ∃ k e, 1 ≤ k ∧ k ≤ c.maxChaseLen - 1 ∧ chaseRead c n k = some e ∧ e.extractLsb' 6 2 ≠ 0#2 ∧
        ∀ i < k, ∃ d, chaseRead c n i = some d ∧ d.extractLsb' 6 2 = 0#2 := by
  simp only [chaseTableOk_iff, chaseRead_of_table ht, isEnd8_eq_true, isEnd8_eq_false]

/-- A well-formed signal table, in the reads of R59. -/
theorem sigTableOk_iff_reads {c : Config} {g : Nat} {t : List SigEntry} (ht : sigTable c g = some t) :
    sigTableOk c.maxSigLen t = true ↔
      t.length ≤ c.maxSigLen ∧ (∃ m, sigRead c g 0 = some m ∧ (m.extractLsb' 6 2 = 1#2 ∨ m.extractLsb' 6 2 = 2#2)) ∧
      ∃ k e, 2 ≤ k ∧ k ≤ c.maxSigLen - 1 ∧ sigRead c g k = some e ∧ e.extractLsb' 6 2 = 3#2 ∧
        ∀ i, 1 ≤ i → i < k → ∃ d, sigRead c g i = some d ∧ d.extractLsb' 6 2 = 0#2 := by
  simp only [sigTableOk_iff, sigRead_of_table ht, sigKind]

/-- Settles O58: the step asks the check first, and the check unfolds into the ranges and, table by table, into reads. -/
theorem illFormedConfigurationsAreRefused : Obligations.IllFormedConfigurationsAreRefused := by
  refine ⟨fun s h => step_of_illFormed h, fun c => ?_⟩
  rw [wellFormed_iff]
  refine and_congr_right fun ⟨_, _, hchase⟩ => and_congr_right fun ⟨_, _, hsig⟩ =>
    and_congr_right fun _ => and_congr_right fun _ => and_congr_right fun _ => and_congr ?_ ?_
  · rw [chaseOk_iff hchase]
    exact forall₂_congr fun n _ => exists_congr fun t => and_congr_right chaseTableOk_iff_reads
  · rw [sigOk_iff hsig]
    exact forall₃_congr fun g _ _ => exists_congr fun t => and_congr_right sigTableOk_iff_reads

/-! ## Which agent moves where no order is given (R66, R235) -/

/-- With no order given and FG with a step to make, the free value picks the agent (U7; log 4). -/
theorem nextAgent_of_ready {s : State} (hsched : s.sched = []) (hready : fgReady s = true) :
    nextAgent s = if Config.foregroundFirst s.turn then .fg else .tmr := by
  simp [nextAgent, hsched, hready]

/-- With no order given and no step for FG to make, TMR moves (log 5). -/
theorem nextAgent_of_rest {s : State} (hsched : s.sched = []) (hready : fgReady s = false) : nextAgent s = .tmr := by
  simp [nextAgent, hsched, hready]

/-- Settles O23: the schedule's head names the agent; with no schedule the free value picks between FG and TMR where FG is ready. -/
theorem eitherReadyAgentMayGoFirst : Obligations.EitherReadyAgentMayGoFirst := by
  intro s hwf
  refine ⟨fun rest => ⟨step_of_sched hwf, step_of_sched hwf⟩, fun hsched => ⟨fun hready => ?_, fun hready => ?_⟩⟩
  · rw [step_eq hwf, nextAgent_of_ready hsched hready, choiceUsed_of_ready hsched hready]
    cases Config.foregroundFirst s.turn with
    | true => exact .inl rfl
    | false => exact .inr rfl
  · rw [step_eq hwf, nextAgent_of_rest hsched hready, choiceUsed_of_rest hsched hready]
    rfl

end Sys2Proof.Machine

namespace Sys2Proof.Machine

/-! ## A held pattern waits while a signal governs (R38, R270) -/

/-- The state with another held pattern, or with none. -/
def withHeld (b : Bool) (v : Pattern) (s : State) : State := { s with held := b, heldVal := v }

/-- The pins and SR do not see what is held. -/
theorem drivePins_withHeld (es : List PinEvent) (b : Bool) (v : Pattern) (s : State) :
    drivePins es (withHeld b v s) = withHeld b v (drivePins es s) := by
  induction es generalizing s with
  | nil => rfl
  | cons e es ih => exact ih (drivePin e s)

/-- Showing a data step reads and writes nothing of what is held. -/
theorem signalShow_withHeld (e : SigEntry) (i : BitVec 8) (b : Bool) (v : Pattern) (s : State) :
    signalShow e i (withHeld b v s) = withHeld b v (signalShow e i s) := by
  simp only [signalShow, busWrite, drivePins_withHeld, show (withHeld b v s).cfg = s.cfg from rfl]
  rfl

section Held

variable {s t u : State}

/-- While a signal keeps control what is held is not consulted (R38, R172 to R174). -/
theorem specialTick_withHeld (ht : specialTick s = .next (t, false)) (b : Bool) (v : Pattern) :
    specialTick (withHeld b v s) = .next (withHeld b v t, false) := by
  rcases specialTick_cases ht with
    ⟨hcnt, ⟨⟩⟩ | ⟨hcnt, e, hread, ⟨he, ⟨⟩⟩ | ⟨he, hmode, e1, hread1, ⟨⟩⟩ | ⟨_, _, ⟨⟩⟩⟩
  · exact specialTick_of_counting (s := withHeld b v s) hcnt
  · rw [specialTick_of_data (s := withHeld b v s) hcnt hread he, ← signalShow_withHeld]
    rfl
  · rw [specialTick_of_loop (s := withHeld b v s) hcnt hread he hmode hread1, signalShow_withHeld]

/-- A TICK that leaves a signal active is a SpecialTick that keeps control: a handover clears SIG_ID, and NormalTick leaves it
(R39, R175). -/
theorem specialTick_of_signal_goes_on (hg : s.guard = false) (hs : s.sigId ≠ 0#8) (ht : tick s = .next t)
    (hid : t.sigId ≠ 0#8) : specialTick (counted s) = .next (t, false) := by
  rcases tick_cases ht with ⟨hguard, _⟩ | ⟨_, _, hspecial⟩ | ⟨_, _, x, hspecial, hnormal⟩ | ⟨_, h0, _⟩
  · exact absurd (hg.symm.trans hguard) (by simp)
  · exact hspecial
  · rcases specialTick_effect hspecial with ⟨⟨⟩, _⟩ | ⟨_, rfl⟩
    exact absurd (by rw [(normalTick_effect hnormal).keeps]; rfl) hid
  · exact absurd h0 hs

/-- SETPAT and CLRPAT write what is held and, CLRPAT, registers of the chase (R134, R135). -/
theorem exec_pattern_eq {i : Instr} (hi : (∃ p, i = .setpat p) ∨ i = .clrpat) (hu : exec i s = .next u) :
    u = withHeld u.held u.heldVal (withChase (chaseSide u) s) := by
  rcases hi with ⟨p, rfl⟩ | rfl
  · rw [exec_setpat] at hu
    cases hu
    rfl
  · rw [exec_clrpat] at hu
    cases hu
    rfl

/-- The TICK of a signal that goes on is the same whatever is held and whatever the registers of the chase are. -/
theorem tick_withHeld_withChase (hg : s.guard = false) (hs : s.sigId ≠ 0#8) (ht : tick s = .next t) (hid : t.sigId ≠ 0#8)
    (b : Bool) (v : Pattern) (d : ChaseSide) :
    tick (withHeld b v (withChase d s)) = .next (withHeld b v (withChase d t)) := by
  have hspecial := specialTick_withHeld (specialTick_withChase (specialTick_of_signal_goes_on hg hs ht hid) d) b v
  have hcounted : counted (withHeld b v (withChase d s)) = withHeld b v (withChase d (counted s)) := rfl
  rw [tick_eq_specialTick (s := withHeld b v (withChase d s)) hg hs, hcounted, hspecial]
  rfl

end Held

/-- Settles O46: SETPAT and CLRPAT write only registers that a signal's TICK does not consult. -/
theorem heldPatternWaitsForTheSignal : Obligations.HeldPatternWaitsForTheSignal := by
  intro i s u t hi hg hs hu ht hid
  have htick := tick_withHeld_withChase hg hs ht hid u.held u.heldVal (chaseSide u)
  rw [← exec_pattern_eq hi hu] at htick
  exact ⟨_, htick, rfl, rfl, rfl, rfl, rfl, rfl⟩

end Sys2Proof.Machine

namespace Sys2Proof.Machine

/-! ## The first TICKs after reset (R262) -/

/-- The bits of pattern 0 are all 0 (R213). -/
theorem busBits_zero (w : Nat) : busBits w 0#6 = List.replicate w false := by
  simp [busBits, List.eq_replicate_iff]

section Reset

variable {c : Config} {a b : List Bool}

/-- With no command since reset the first TICK writes the all-off, and the TICKs after it only count themselves (R178, R262). -/
theorem tickTimes_initial (h : Good (State.initial c a b)) (k : Nat) :
    tickTimes (k + 1) (State.initial c a b) =
      .next { afterBusWrite 0#6 (State.initial c a b) with writes := [(1, 0#6)], offDone := true, performed := 1 + k } := by
  obtain ⟨hfirst, _⟩ := offIsWrittenExactlyOnce _ h rfl rfl rfl rfl
  have ht := hfirst rfl
  obtain ⟨_, hrest⟩ := offIsWrittenExactlyOnce _ (h.tick ht) rfl rfl rfl rfl
  rw [tickTimes_succ, ht, andThen_next, hrest rfl k]
  rfl

/-- After SETPAT the first TICK writes the held pattern, since there was no BusWrite yet (R177). -/
theorem tick_initial_setpat (h : Good (State.initial c a b)) {p : Pattern} {u : State}
    (hu : exec (.setpat p) (State.initial c a b) = .next u) : tick u = .next (afterBusWrite p (counted u)) := by
  have hgood : Good u := h.exec (exec_effect hu)
  cases hu
  exact heldPatternIsWrittenWhenItDiffers _ hgood rfl rfl rfl

/-- After ON the chase runs from the start of table 0, with an element due (R137, R180). -/
theorem tick_initial_turnOn (h : Good (State.initial c a b)) {u : State}
    (hu : exec .turnOn (State.initial c a b) = .next u) :
    ∃ e, chaseRead c 0 0 = some e ∧
      tick u = .next { afterBusWrite (chasePat e) (counted u) with chaseIdx := 1#8, chaseCnt := u.speed } := by
  have hgood : Good u := h.exec (exec_effect hu)
  cases hu
  have hruns : ChaseRuns { State.initial c a b with chaseOn := true, chaseCnt := 0#8, offDone := false } :=
    ⟨rfl, rfl, rfl, rfl, rfl⟩
  exact hruns.tick_eq_afterBusWrite hgood (Nat.zero_le 1) (hgood.chaseNext_zero (.inl rfl))

end Reset

/-- Settles O50: the reset state is good, so the first TICK is that of the state that governs: ChaseOff, or the one that the command
before it chose. -/
theorem firstTickAfterResetFollowsTheState : Obligations.FirstTickAfterResetFollowsTheState := by
  intro c a b hc ha hb
  have h : Good (State.initial c a b) := resetStateIsGood.1 c a b hc ha hb
  refine ⟨fun k => ?_, fun i u hi hle hu => ?_, fun p u hu => ?_, fun u hu => ?_⟩
  · exact ⟨_, tickTimes_initial h k, rfl, busBits_zero c.wBus, Nat.add_comm 1 k, rfl⟩
  · obtain ⟨_, e, hread, htick⟩ := signalPreemptsAtTheNextTick.1 _ u i h rfl hi hle hu
    rw [exec_signal_of_le hi hle] at hu
    cases hu
    exact ⟨e, _, hread, htick, rfl⟩
  · have htick := tick_initial_setpat h hu
    cases hu
    exact ⟨_, htick, rfl⟩
  · obtain ⟨e, hread, htick⟩ := tick_initial_turnOn h hu
    cases hu
    exact ⟨e, _, hread, htick, rfl⟩

end Sys2Proof.Machine

namespace Sys2Proof.Machine

/-! ## The count of performed TICKs along a run (R170, R272) -/

/-- A TICK leaves the schedule. -/
theorem tick_sched {s t : State} (h : tick s = .next t) : t.sched = s.sched := by
  rw [(tick_effect h).keeps]

/-- A TICK gives FG nothing to do, and takes nothing from it. -/
theorem tick_fgReady {s t : State} (h : tick s = .next t) : fgReady t = fgReady s := by
  rw [(tick_effect h).keeps]
  rfl

/-- An FG that has no step to make is in no command. -/
theorem phase_of_rest {s : State} (h : fgReady s = false) : s.phase = .idle := by
  simp only [fgReady, Bool.or_eq_false_iff, bne_eq_false_iff_eq] at h
  obtain ⟨⟨hphase, _⟩, _⟩ := h
  exact hphase

/-- In a good state GUARD is 0 while FG rests (R130). -/
theorem Good.guard_of_rest {s : State} (h : Good s) (hready : fgReady s = false) : s.guard = false := by
  simpa [GuardFollowsPhase, phase_of_rest hready] using h.guardFollowsPhase

/-- With FG at rest and no schedule the step of a good state is a performed TICK, and FG is at rest after it (log 5). -/
theorem Good.step_of_rest {s : State} (h : Good s) (hsched : s.sched = []) (hready : fgReady s = false) :
    ∃ t, step s = .next t ∧ Good t ∧ t.sched = [] ∧ fgReady t = false ∧ t.performed = s.performed + 1 := by
  obtain ⟨t, ht⟩ := h.tick_completes
  have hstep : step s = Machine.tick s := by
    rw [step_eq h.wellFormed, nextAgent_of_rest hsched hready, choiceUsed_of_rest hsched hready]
    rfl
  have hcount : t.performed = s.performed + 1 := by rw [tick_performed ht, h.guard_of_rest hready]; rfl
  exact ⟨t, hstep.trans ht, h.tick ht, (tick_sched ht).trans hsched, (tick_fgReady ht).trans hready, hcount⟩

/-- So any number of steps are performed TICKs. -/
theorem Good.runSteps_of_rest {s : State} (h : Good s) (hsched : s.sched = []) (hready : fgReady s = false) (k : Nat) :
    ∃ t, runSteps k s = .next t ∧ t.performed = s.performed + k ∧ Good t := by
  induction k generalizing s with
  | zero => exact ⟨s, rfl, rfl, h⟩
  | succ k ih =>
    obtain ⟨x, hx, hgood, hsched, hready, hcount⟩ := h.step_of_rest hsched hready
    obtain ⟨t, ht, hrun, hgood⟩ := ih hgood hsched hready
    exact ⟨t, by rw [runSteps_succ, hx, andThen_next, ht], by omega, hgood⟩

/-- A step that is a TICK strobe counts it exactly when it finds GUARD = 0 (R170). -/
theorem step_performed_of_strobe {s t : State} (h : step s = .next t) (ha : nextAgent s = .tmr) :
    t.performed = if s.guard = true then s.performed else s.performed + 1 := by
  rcases step_cases h with ⟨_, ⟨hfg, _⟩ | ⟨_, ht⟩ | ⟨hrst, _⟩⟩
  · exact absurd (ha.symm.trans hfg) (by simp)
  · simpa using tick_performed ht
  · exact absurd (ha.symm.trans hrst) (by simp)

/-- No step takes a performed TICK back, reset included (log 9). -/
theorem performed_le_of_step {s t : State} (h : step s = .next t) : s.performed ≤ t.performed := by
  rcases step_cases h with ⟨_, ⟨_, ht⟩ | ⟨ha, _⟩ | ⟨_, rfl⟩⟩
  · simpa using (fgStep_performed ht).ge
  · rw [step_performed_of_strobe h ha]
    split <;> omega
  · simp

section Run

variable {r : Nat → State}

theorem IsRun.performed_monotone (hr : IsRun r) : Monotone fun n => (r n).performed :=
  monotone_nat_of_le_succ fun n => performed_le_of_step (hr n)

/-- A strobe of a run that is not lost is performed. -/
theorem IsRun.performed_of_strobe {m : Nat} (hr : IsRun r) (hm : StrobesAt r m) (hkept : ¬ LosesTickAt r m) :
    (r (m + 1)).performed = (r m).performed + 1 := by
  have hguard : ¬ (r m).guard = true := fun hg => hkept ⟨hm, hg⟩
  rw [step_performed_of_strobe (hr m) hm, if_neg hguard]

/-- What holds at more than finitely many places of a run holds after each of its places. -/
theorem exists_ge_of_not_finitely {p : Nat → Prop} (h : ¬ Finitely p) (n : Nat) : ∃ m, n ≤ m ∧ p m := by
  by_contra hnone
  exact h ⟨n, fun m hm hp => hnone ⟨m, hm, hp⟩⟩

/-- Where finitely many strobes are lost and the strobes go on, the performed TICKs grow without bound. -/
theorem IsRun.performed_unbounded (hr : IsRun r) (hlost : Finitely (LosesTickAt r)) (hstrobes : ¬ Finitely (StrobesAt r))
    (p : Nat) : ∃ n, p ≤ (r n).performed := by
  obtain ⟨n₀, hkept⟩ := hlost
  induction p with
  | zero => exact ⟨0, Nat.zero_le _⟩
  | succ p ih =>
    obtain ⟨n, hn⟩ := ih
    obtain ⟨m, hm, hstrobe⟩ := exists_ge_of_not_finitely hstrobes (max n₀ n)
    have hmono : (r n).performed ≤ (r m).performed := hr.performed_monotone (by omega)
    have hcount := hr.performed_of_strobe hstrobe (hkept m (by omega))
    exact ⟨m + 1, by omega⟩

end Run

/-- Settles O59: at rest every step is a performed TICK; in a fair run every strobe after the last lost one is performed. -/
theorem idleForegroundLosesNoTick : Obligations.IdleForegroundLosesNoTick := by
  refine ⟨fun s k h hsched hready => h.runSteps_of_rest hsched hready k, fun r hr hfair hissues => ?_⟩
  have hlost : Finitely (LosesTickAt r) := hfair hissues
  refine ⟨?_, hr.performed_unbounded hlost⟩
  obtain ⟨n, hkept⟩ := hlost
  exact ⟨n, fun m hm hstrobe => hr.performed_of_strobe hstrobe (hkept m hm)⟩

end Sys2Proof.Machine

namespace Sys2Proof.Machine

/-! ## Repeated commands (R271) -/

section Repeat

variable {s : State}

/-- ON while the chase is on (R137). -/
theorem exec_turnOn_of_on (hon : s.chaseOn = true) : exec .turnOn s = .next s := if_pos hon

/-- OFF while the chase is off (R138). -/
theorem exec_turnOff_of_off (hoff : s.chaseOn = false) : exec .turnOff s = .next s := if_neg (by simp [hoff])

/-- CLRPAT with no pattern held (R135). -/
theorem exec_clrpat_of_not_held (hheld : s.held = false) : exec .clrpat s = .next s := if_neg (by simp [hheld])

end Repeat

/-- ON, OFF, CLRPAT and SIGNAL 0 each set the very register whose value makes them change nothing. -/
theorem exec_again {i : Instr} (hi : i ∈ [Instr.turnOn, .turnOff, .clrpat, .signal 0#8]) {s t : State}
    (ht : exec i s = .next t) : exec i t = .next t := by
  simp only [List.mem_cons, List.not_mem_nil, or_false] at hi
  rcases hi with rfl | rfl | rfl | rfl
  · rw [exec_turnOn] at ht
    cases ht
    exact exec_turnOn_of_on rfl
  · rw [exec_turnOff] at ht
    cases ht
    exact exec_turnOff_of_off rfl
  · rw [exec_clrpat] at ht
    cases ht
    exact exec_clrpat_of_not_held rfl
  · obtain ⟨hid, _⟩ := exec_signal_zero_flags ht
    exact exec_signal_zero_of_inactive hid

/-- Settles O16, one equation per command. -/
theorem repeatedCommandsAreIdempotentOrRestart : Obligations.RepeatedCommandsAreIdempotentOrRestart := by
  refine ⟨fun i hi s t ht => exec_again hi ht, fun s => exec_turnOn_of_on, fun s => exec_turnOff_of_off,
    fun s => exec_clrpat_of_not_held, fun s => exec_signal_zero_of_inactive, fun s hseq => ?_,
    fun s hid hle => exec_signal_of_le hid hle, fun s p => exec_setpat p s, fun s x hx => ?_, fun s b => rfl⟩
  · rw [exec_setseq, if_pos hseq]
  · rw [exec_setspeed, atLeastOne_eq, if_neg hx]

end Sys2Proof.Machine
